-- ==== Sys2Proof/Word.lean ====
section
/-!
DEFINITION. Sys2Proof/Word.lean: the words of the TK864.

Registers and record words are 32 bits, memories are bytes (R7, R27, R100).  Quantities the chapters compute
with are `Int` or `Nat` and are narrowed where a register field or a record stores them.
-/

namespace Sys2Proof

/-- A register or record word (R100). -/
abbrev Word := BitVec 32

/-- A byte of a memory or of a wire format (R7). -/
abbrev Byte := BitVec 8

end Sys2Proof
end

