-- ==== Sys2Proof/Syntax.lean ====
section
/-!
DEFINITION. Sys2Proof/Syntax.lean: the commands of the TK864 block and their operands.

One constructor of `Instr` per row of spec/opcode_table.json.  A command that software gives names its initiator
(R111); a command that an input, a converter or a timer gives carries what that source shows the block.  A command
that means "a time has passed" carries nothing: its arrival is the moment the time ends.
-/

namespace Sys2Proof

/-- A lane number (R1). -/
abbrev LaneNo := Fin 64

/-- An initiator of register and memory accesses (R111): the control core, the host port, ports U0 to U3. -/
inductive Init where
  | core
  | host
  | u (port : Fin 4)
  deriving DecidableEq, Repr

/-- Where CS_N rises in a host frame (R123). -/
inductive FrameCut where
  /-- the frame is complete -/
  | none
  /-- inside the opcode -/
  | inOpcode
  /-- before the address is complete -/
  | inAddress
  /-- inside a data word, inside its CRC byte, or between the two while CRC-8 is on -/
  | inWord
  deriving DecidableEq, Repr

/-- A data word as the host sends it: the word and, while CRC-8 is on, its CRC byte (R124), and the ordering units that applied a
host write since the word before it (R111, R125). -/
structure HostWord where
  data : Word
  crc : Byte
  applied : List (BitVec 16)
  deriving DecidableEq, Repr

/-- A write frame after its opcode (R119): address, data words, and where it ends. -/
structure WriteFrame where
  addr : BitVec 24
  words : List HostWord
  cut : FrameCut
  deriving DecidableEq, Repr

/-- A read frame after its opcode (R119): address, for each whole word clocked out the ordering units that applied a host write
since the word before it (R111, R112), and where it ends. -/
structure ReadFrame where
  addr : BitVec 24
  words : List (List (BitVec 16))
  cut : FrameCut
  deriving DecidableEq, Repr

/-- The transaction part of a link packet (R497), with the link layer's WRAPPED bit (R482). -/
structure Packet where
  typ : BitVec 4
  mc : Bool
  rsp : Bool
  stat : BitVec 2
  tag : BitVec 7
  hopAddr : Bool
  ttl : Byte
  dlen : BitVec 7
  /-- word 1: destination, or group and scope -/
  w1 : Word
  src : BitVec 20
  ipos : BitVec 9
  passed : Bool
  addr : BitVec 24
  rcnt : BitVec 6
  tport : BitVec 2
  data : List Word
  wrapped : Bool
  deriving DecidableEq, Repr

/-- What a write to the record store is read back as (R423): as written, otherwise, or never ready (EEPROM). -/
inductive StoreReply where
  | matched
  | differs (words : List Word)
  | timedOut
  deriving DecidableEq, Repr

/-- What the write of the last-gasp record and its one repeat are read back as (R66). -/
structure GaspIn where
  first : StoreReply
  second : StoreReply
  deriving DecidableEq, Repr

/-- What the converters and inputs of one lane show over one control frame: raw averages of the current and the voltage
converter in 2^-30 of full scale (R203), the peak of |V_SH| in µV (R195), modulators that clipped with the input in range
(R214), the thermistor code (R200), and the least and the greatest V(CSN) − V(VSP) of the frame
in µV (R273). -/
structure LaneIn where
  i : Int
  v : Int
  peak : Nat
  iClip : Bool
  vClip : Bool
  th : BitVec 12
  csnLo : Int
  csnHi : Int
  deriving DecidableEq, Repr

/-- A feed-forward sample that completes within the cycles that `FRAME_BOUNDARY` runs: bank, CLK_SYS cycle of the frame, code (R138). -/
structure VbsIn where
  bank : Fin 8
  cycle : Fin 800
  code : BitVec 10
  deriving DecidableEq, Repr

/-- What the device's inputs show over the frame that ends at a boundary: the lanes in order (a lane past the list shows zeros),
raw averages of the spares, spares that clipped with the input in range (R214), lanes whose bootstrap is below V_BSTUV(r) at
the boundary (R146, R147), and the feed-forward samples that complete before cycle 800 of the frame that begins (R280). -/
structure FrameIn where
  lanes : List LaneIn
  spares : List Int
  spClip : BitVec 8
  bstLow : BitVec 64
  vbs : List VbsIn
  deriving DecidableEq, Repr

/-- What cycle 1,000 meets: lanes whose bootstrap is below V_BSTUV(r) (R146), and host writes of `LANE[l].CAP` that are applied in
the cycle of an update (R308). -/
structure GrantIn where
  bstLow : BitVec 64
  capWrites : List (LaneNo × Word)
  deriving DecidableEq, Repr

/-- What the driver interlock does to the rising edge of a gate (R135, R158): nothing, holds it back by a number of taps beyond the
effective dead time, or holds it low for the whole cycle. -/
inductive Interlock where
  | clear
  | late (taps : Nat)
  | stuck
  deriving DecidableEq, Repr

/-- The force and sense terminals of a lane in µV, and the CLK_SYS cycles for which they stand so (R273, R274). -/
structure ContactIn where
  lane : LaneNo
  csn : Int
  vsp : Int
  cycles : Nat
  deriving DecidableEq, Repr

/-- The peak comparator's trip of a lane in taps after the start of the present CLK_SYS cycle (R181), and the bootstrap and the
interlock at the rising edge of the untimed gate. -/
structure PeakIn where
  lane : LaneNo
  taps : Nat
  bstLow : Bool
  lock : Interlock
  deriving DecidableEq, Repr

/-- A lead lane, and the lanes of its channel, by relative position, whose bootstrap is below V_BSTUV(r) (R146). -/
structure StartIn where
  lane : LaneNo
  bstLow : Byte
  deriving DecidableEq, Repr

/-- Raw averages of the three ladder points of each range type, in 2^-30 of full scale (R208). -/
structure CalPoints where
  hi : List Int
  lo : List Int
  volt : List Int
  deriving DecidableEq, Repr

/-- One sample of a feed's converter and the inputs it shows (R366): shunt voltage in µV, V(EFIN) in mV, V_DS in mV, V(EFVB) in
mV, and the charge pump above V_CPUV. -/
structure FeedIn where
  vsh : Int
  vin : Nat
  vds : Int
  vb : Nat
  cpOk : Bool
  deriving DecidableEq, Repr

/-- The core's three interrupts (R388). -/
inductive CoreIrq where
  | msi | mti | mei
  deriving DecidableEq, Repr

/-- A call of LINK_RD, LINK_WR or LINK_WRN (R394): a0 to a4, and whether an installed handler makes it. -/
structure SvcReq where
  node : Word
  addr : Word
  words : Word
  buf : Word
  flags : Word
  inHandler : Bool
  deriving DecidableEq, Repr

/-- What the plinth's VIN comparator reads (R449): above V_SW(r), between the levels, below V_SW(f). -/
inductive VinLevel where
  | above | between | below
  deriving DecidableEq, Repr

/-- A SKP as a port receives it (R476): its SKIP characters, and the characters by which the sender has gained on the receiver since
the SKP before, below 0 where it fell behind. -/
structure SkpIn where
  skips : Nat
  drift : Int
  deriving DecidableEq, Repr

/-- What the receiver found on the line during a command beside what the command names: code violations and disparity errors
(R473), and the SKPs (R476). -/
structure LineErr where
  cv : Nat
  disp : Nat
  skps : List SkpIn
  deriving DecidableEq, Repr

/-- A training set as a port receives it (R477): the fields, whether CHK matches, whether the pair was found inverted (R480), and the invalid characters. -/
structure TsIn where
  addr : BitVec 18
  port : BitVec 2
  seen : Bool
  fresh : Bool
  ver : Byte
  chk : Bool
  inverted : Bool
  err : LineErr
  deriving DecidableEq, Repr

/-- A link control frame as a port receives it (R484): SEQ, CREDIT, whether its CRC matches, and the invalid characters. -/
structure LcfIn where
  seq : Byte
  credit : Byte
  crcOk : Bool
  err : LineErr
  deriving DecidableEq, Repr

/-- A packet as a port receives it (R482): SEQ, whether the length agrees with LEN, whether the CRC matches, EOP (else EBP), the
invalid characters, the time since its SOP crossed the ball in 1/256 ns (R521), and the transaction part. -/
structure PacketIn where
  seq : Byte
  lenOk : Bool
  crcOk : Bool
  eop : Bool
  err : LineErr
  age : Nat
  pkt : Packet
  deriving DecidableEq, Repr

/-- What the device meets at a release from reset (R40, R79, R84): the BOOTSEL, HCRC and TESTEN straps, whether the PLL locks in time,
and the CLK_SYS cycles from t3 to t5 beyond the zero fill. -/
structure ReleaseIn where
  bootsel : BitVec 2
  hcrc : Bool
  testen : Bool
  locks : Bool
  after : Nat
  deriving DecidableEq, Repr

/-- The commands: one constructor per row of the table, in its order. -/
inductive Instr where
  /-- `FRAME_BOUNDARY` (R20) -/
  | frameBoundary (x : FrameIn)
  /-- `GRANT_APPLY` (R20) -/
  | grantApply (x : GrantIn)
  /-- `CONTACT_LOST` (R274) -/
  | contactLost (x : ContactIn)
  /-- `SAFE_N_ASSERT` (R128) -/
  | safeNAssert
  /-- `SAFE_N_RELEASE` (R128) -/
  | safeNRelease
  /-- `OC_LIMIT` (R181) -/
  | ocLimit (x : PeakIn)
  /-- `BANK_UV` (R157) -/
  | bankUv (bank : Fin 8)
  /-- `BANK_UV_RECOVER` (R157) -/
  | bankUvRecover (bank : Fin 8)
  /-- `SWITCH_TRIGGER` (R144): the comparator's trip in taps after the start of the present CLK_SYS cycle, and the bootstrap and the
  interlock at the rising edge of the timed gate -/
  | switchTrigger (lane : LaneNo) (trip : Nat) (bstLow : Bool) (lock : Interlock)
  /-- `ON_TIME_END` (R134): the bootstrap and the interlock at the rising edge of the untimed gate -/
  | onTimeEnd (lane : LaneNo) (bstLow : Bool) (lock : Interlock)
  /-- `MISSING_TRIGGER` (R148) -/
  | missingTrigger (lane : LaneNo)
  /-- `BST_PRECHARGE_END` (R146) -/
  | bstPrechargeEnd (lane : LaneNo)
  /-- `VBS_SAMPLE` (R138) -/
  | vbsSample (bank : Fin 8) (code : BitVec 10)
  /-- `RANGE_UP_SWITCH` (R195) -/
  | rangeUpSwitch (lane : LaneNo)
  /-- `SYNC_EDGE` (R149): the high time and the low time before it were at least 50 ns, and the stamp in taps after the start of the
  present CLK_SYS cycle -/
  | syncEdge (high low : Bool) (taps : Nat)
  /-- `SYNC_LOST` (R151) -/
  | syncLost
  /-- `MREF_ACQ` (R150) -/
  | mrefAcq (i : Init)
  /-- `MREF_SYNCEN_CLEAR` (R151) -/
  | mrefSyncenClear (i : Init) (glide : BitVec 3)
  /-- `ISOSET_ELAPSED` (R168) -/
  | isosetElapsed (x : StartIn)
  /-- `HOLDT_ELAPSED` (R168) -/
  | holdtElapsed (lane : LaneNo)
  /-- `LOCCLR` (R168) -/
  | locclr (i : Init) (lane : LaneNo)
  /-- `SHEDCLR` (R187) -/
  | shedclr (i : Init) (lane : LaneNo)
  /-- `SUP_SAMPLE` (R53): the voltage in µV at the rail whose turn it is (R51, R52), and the housekeeping regulators at their current
  limit, bits 0 to 4 HK0, HK1, VDDIO, VDDA, VDDL (R69) -/
  | supSample (uv : Nat) (limits : BitVec 5)
  /-- `SUP_CNTCLR` (R56) -/
  | supCntclr (i : Init) (data : Word)
  /-- `POWER_ON` (R62) -/
  | powerOn (vbakOk : Bool)
  /-- `INT_STEP_DONE` (R57) -/
  | intStepDone
  /-- `INT_STEP_TIMEOUT` (R57) -/
  | intStepTimeout
  /-- `INT_DOWN_DONE` (R62) -/
  | intDownDone
  /-- `PSQ_ON_REQUEST` (R62) -/
  | psqOnRequest (i : Init)
  /-- `PSQ_OFF_REQUEST` (R62) -/
  | psqOffRequest (i : Init)
  /-- `EXT_UP_STEP_DONE` (R58) -/
  | extUpStepDone
  /-- `EXT_UP_TIMEOUT` (R62) -/
  | extUpTimeout
  /-- `EXT_DOWN_STEP_DONE` (R62) -/
  | extDownStepDone
  /-- `MINOFF_DONE` (R62) -/
  | minoffDone
  /-- `POWER_FAIL` (R66) -/
  | powerFail
  /-- `LAST_GASP_COMPLETE` (R66): whether VIN is at or above VIN_PF(r), and the record's writes -/
  | lastGaspComplete (vinBack : Bool) (stored : GaspIn)
  /-- `VIN_UVLO` (R62) -/
  | vinUvlo
  /-- `CLK_MONITOR_WINDOW` (R75) -/
  | clkMonitorWindow (refCount : BitVec 8) (sysCount : BitVec 12)
  /-- `PLL_LOCK_RETRY` (R79) -/
  | pllLockRetry (x : ReleaseIn)
  /-- `HOLD_EXP` (R77) -/
  | holdExp
  /-- `RELOCK` (R78) -/
  | clkRelock (i : Init)
  /-- `RELOCK_DONE` (R78) -/
  | clkRelockDone
  /-- `RST_PORT` (R87) -/
  | rstPort (i : Init) (sel : BitVec 3) (key : Byte)
  /-- `RST_CHAN` (R86) -/
  | rstChan (i : Init) (key : Byte)
  /-- `RST_CORE` (R88) -/
  | rstCore (i : Init) (key : Byte)
  /-- `RST_DEVICE` (R80) -/
  | rstDevice (i : Init) (key : Byte)
  /-- `RESET_N_ASSERT` (R83) -/
  | resetNAssert
  /-- `DEVICE_RESET_RELEASE` (R84) -/
  | deviceResetRelease (x : ReleaseIn)
  /-- `MODE_REQ_RUN` (R91) -/
  | modeReqRun (i : Init)
  /-- `MODE_REQ_STANDBY` (R91) -/
  | modeReqStandby (i : Init)
  /-- `MODE_REQ_DEEP_SLEEP` (R91) -/
  | modeReqDeepSleep (i : Init)
  /-- `WAKE` (R93) -/
  | wake (src : Fin 11) (refOk : Bool)
  /-- `REG_WRITE` (R108) -/
  | regWrite (i : Init) (addr : BitVec 24) (data : Word)
  /-- `PEVT_CLEAR` (R104) -/
  | pevtClear (i : Init) (page : Byte) (clr : BitVec 16) (hw : BitVec 16)
  /-- `PRST` (R102) -/
  | pagePrst (i : Init) (page : Byte)
  /-- `FENCE` (R113) -/
  | fence (i : Init) (data : Word)
  /-- `COMMIT` (R114) -/
  | commit (i : Init) (data : Word)
  /-- `NOP` (R119) -/
  | hostNop
  /-- `WR` (R119) -/
  | hostWr (x : WriteFrame)
  /-- `RD` (R119) -/
  | hostRd (x : ReadFrame)
  /-- `WRQ` (R119) -/
  | hostWrq (x : WriteFrame)
  /-- `RDQ` (R119) -/
  | hostRdq (x : ReadFrame)
  /-- `OPCODE` (R119) -/
  | badOpcode (op : Byte) (cut : Bool)
  /-- `HOST_WRITE_APPLY` (R125) -/
  | hostWriteApply (unit : BitVec 16)
  /-- `HIF_CNTCLR` (R130) -/
  | hifCntclr (i : Init) (data : Word)
  /-- `ROVE_SLOT_START` (R206) -/
  | roveSlotStart (spare : Fin 8)
  /-- `SPARE_CAL_DONE` (R209) -/
  | spareCalDone (spare : Fin 8) (pts : CalPoints)
  /-- `XREF_READING` (R202) -/
  | xrefReading (spare : Fin 8) (raw : Int)
  /-- `MATCH_WINDOW_END` (R210) -/
  | matchWindowEnd (spare : Fin 8)
  /-- `HANDOVER` (R210) -/
  | handover (spare : Fin 8)
  /-- `CAL_COEF_WRITE` (R205) -/
  | calCoefWrite (i : Init) (data : Word)
  /-- `CAL_COEF_READ` (R205) -/
  | calCoefRead (i : Init)
  /-- `ACCCLR` (R218) -/
  | accclr (i : Init) (high : Bool) (lanes : Word)
  /-- `QACC_READ` (R218) -/
  | qaccRead (i : Init) (lane : LaneNo)
  /-- `START` (R245) -/
  | cmdStart (lane : LaneNo)
  /-- `PAUSE` (R245) -/
  | cmdPause (lane : LaneNo)
  /-- `RESUME` (R245) -/
  | cmdResume (lane : LaneNo)
  /-- `ABORT` (R245) -/
  | cmdAbort (lane : LaneNo)
  /-- `SKIP` (R245) -/
  | cmdSkip (lane : LaneNo)
  /-- `GOTO` (R245) -/
  | cmdGoto (lane : LaneNo)
  /-- `END` (R230) -/
  | stepEnd (lane : LaneNo) (step : BitVec 13)
  /-- `REST` (R230) -/
  | stepRest (lane : LaneNo) (step : BitVec 13)
  /-- `CC` (R230) -/
  | stepCc (lane : LaneNo) (step : BitVec 13)
  /-- `CV` (R230) -/
  | stepCv (lane : LaneNo) (step : BitVec 13)
  /-- `CCCV` (R230) -/
  | stepCccv (lane : LaneNo) (step : BitVec 13)
  /-- `CP` (R230) -/
  | stepCp (lane : LaneNo) (step : BitVec 13)
  /-- `CR` (R230) -/
  | stepCr (lane : LaneNo) (step : BitVec 13)
  /-- `CHARGE` (R258) -/
  | stepCharge (lane : LaneNo) (step : BitVec 13)
  /-- `PULSE` (R238) -/
  | stepPulse (lane : LaneNo) (step : BitVec 13)
  /-- `EIS` (R320) -/
  | stepEis (lane : LaneNo) (step : BitVec 13)
  /-- `OCV` (R237) -/
  | stepOcv (lane : LaneNo) (step : BitVec 13)
  /-- `LOOP` (R234) -/
  | stepLoop (lane : LaneNo) (step : BitVec 13)
  /-- `JUMPIF` (R235) -/
  | stepJumpif (lane : LaneNo) (step : BitVec 13)
  /-- `BARRIER` (R239) -/
  | stepBarrier (lane : LaneNo) (step : BitVec 13)
  /-- `MARK` (R236) -/
  | stepMark (lane : LaneNo) (step : BitVec 13)
  /-- `HOLD` (R230) -/
  | stepHold (lane : LaneNo) (step : BitVec 13)
  /-- `TABLE_RECORD_ENTRY` (R551) -/
  | tableRecordEntry (lane : LaneNo) (step : BitVec 13)
  /-- `STEP_TIMER_EXPIRY` (R242) -/
  | stepTimerExpiry (lane : LaneNo)
  /-- `PULSE_LEVEL_CHANGE` (R238) -/
  | pulseLevelChange (lane : LaneNo)
  /-- `OCV_CHECK` (R237) -/
  | ocvCheck (lane : LaneNo)
  /-- `BARREL` (R239) -/
  | rcpBarrel (i : Init) (data : Word)
  /-- `ECMD` (R249) -/
  | rcpEcmd (i : Init) (data : Word)
  /-- `TAPER_MINUTE` (R260) -/
  | taperMinute (lane : LaneNo)
  /-- `NEGDV_SECOND` (R261) -/
  | negdvSecond (lane : LaneNo)
  /-- `DTDT_MINUTE` (R262) -/
  | dtdtMinute (lane : LaneNo)
  /-- `TERM_DONE` (R263) -/
  | termDone (lane : LaneNo)
  /-- `PHASE_TIMER_EXPIRY` (R268) -/
  | phaseTimerExpiry (lane : LaneNo)
  /-- `REST_ANCHOR` (R300) -/
  | restAnchor (lane : LaneNo)
  /-- `SEED` (R302) -/
  | estSeed (i : Init) (data : Word)
  /-- `TBLCMD` (R296) -/
  | tblcmd (i : Init) (data : Word)
  /-- `TABLE_VALIDATE_DONE` (R296) -/
  | tableValidateDone
  /-- `CAP_WRITEBACK` (R310) -/
  | capWriteback
  /-- `WBREQ` (R310) -/
  | wbreq (i : Init) (data : Word)
  /-- `WRITEBACK_DONE` (R310) -/
  | writebackDone (r : StoreReply)
  /-- `EIS_WINDOW_CLOSE` (R327) -/
  | eisWindowClose (lane : LaneNo)
  /-- `EIS_ZRE_READ` (R333) -/
  | eisZreRead (i : Init)
  /-- `REPORT_PERIOD_END` (R338) -/
  | reportPeriodEnd
  /-- `TLM_HALF_RELEASE` (R338) -/
  | tlmHalfRelease
  /-- `TLM_LINK_ABANDON` (R338) -/
  | tlmLinkAbandon
  /-- `TLM_PKCLR` (R349) -/
  | tlmPkclr (i : Init) (data : Word)
  /-- `EFU_FEED_ENABLE` (R358) -/
  | efuFeedEnable (i : Init) (feed : Fin 2)
  /-- `EFU_FEED_DISABLE` (R358) -/
  | efuFeedDisable (i : Init) (feed : Fin 2)
  /-- `EFU_CLR` (R358) -/
  | efuClr (i : Init) (feed : Fin 2)
  /-- `EFU_INSERT_DONE` (R358) -/
  | efuInsertDone (feed : Fin 2)
  /-- `EFU_INPUT_LEAVES_WINDOW` (R358) -/
  | efuInputLeavesWindow (feed : Fin 2)
  /-- `EFU_SAMPLE` (R360) -/
  | efuSample (feed : Fin 2) (x : FeedIn)
  /-- `EFU_LIMIT_EXIT` (R358) -/
  | efuLimitExit (feed : Fin 2)
  /-- `EFU_FAST_TRIP` (R361) -/
  | efuFastTrip (feed : Fin 2)
  /-- `EFU_REVERSE` (R362) -/
  | efuReverse (feed : Fin 2)
  /-- `EFU_REJOIN` (R358) -/
  | efuRejoin (feed : Fin 2)
  /-- `CP_FAIL` (R358) -/
  | cpFail
  /-- `EFU_RAMP_DONE` (R359) -/
  | efuRampDone (feed : Fin 2)
  /-- `EFU_RAMP_TIMEOUT` (R358) -/
  | efuRampTimeout (feed : Fin 2)
  /-- `EFU_INPUT_UV` (R358) -/
  | efuInputUv (feed : Fin 2)
  /-- `EFU_ON_SETTLED` (R358) -/
  | efuOnSettled (feed : Fin 2)
  /-- `EFU_TRIP_END` (R358) -/
  | efuTripEnd (feed : Fin 2)
  /-- `EFU_RETRY` (R365) -/
  | efuRetry (feed : Fin 2) (vin : Nat)
  /-- `DFET` (R364) -/
  | efuDfet (feed : Fin 2)
  /-- `EFU_CNTCLR` (R370) -/
  | efuCntclr (i : Init) (data : Word)
  /-- `EFU_ENERGY_READ` (R366) -/
  | efuEnergyRead (i : Init) (feed : Fin 2)
  /-- `THM_SENSOR_CONVERT` (R372) -/
  | thmSensorConvert (sensor : Fin 9) (reading : Option Int)
  /-- `THM_LEVEL_UPDATE` (R377) -/
  | thmLevelUpdate
  /-- `TSD` (R379) -/
  | thermalShutdown (sensor : Fin 9)
  /-- `THM_PKCLR` (R374) -/
  | thmPkclr (i : Init) (data : Word)
  /-- `CORE_START` (R390) -/
  | coreStart
  /-- `GO` (R390) -/
  | bootGo (i : Init) (data : Word)
  /-- `IMAGE_CHECK_DONE` (R391) -/
  | imageCheckDone
  /-- `CORE_INTERRUPT` (R388) -/
  | coreInterrupt (irq : CoreIrq) (pc : Word)
  /-- `TRAP` (R389) -/
  | coreTrap (cause : BitVec 4) (pc : Word) (tval : Word)
  /-- `C2H` (R409) -/
  | coreC2h (i : Init) (data : Word)
  /-- `MTIME_READ` (R409) -/
  | mtimeRead (i : Init)
  /-- `HANDLER` (R394) -/
  | svcHandler (a0 : Word) (a1 : Word)
  /-- `LINK_RD` (R394) -/
  | svcLinkRd (q : SvcReq)
  /-- `LINK_WR` (R394) -/
  | svcLinkWr (q : SvcReq)
  /-- `LINK_WRN` (R394) -/
  | svcLinkWrn (q : SvcReq)
  /-- `LINK_FENCE` (R394) -/
  | svcLinkFence (node : Word) (inHandler : Bool)
  /-- `TAB_READ` (R394) -/
  | svcTabRead (off : Word)
  /-- `TAB_WRITE` (R394) -/
  | svcTabWrite (off : Word) (data : Word)
  /-- `TAB_APPLY` (R394) -/
  | svcTabApply
  /-- `WALK` (R394) -/
  | svcWalk (ring : Word)
  /-- `WDI_TOGGLE` (R396) -/
  | wdiToggle (internal : Bool)
  /-- `WDG_LATE` (R396) -/
  | wdgLate
  /-- `CHECKIN` (R397) -/
  | wdgCheckin (i : Init) (sup : Bool) (tasks : Word)
  /-- `WDG_LOCK` (R400) -/
  | wdgLock (i : Init) (data : Word)
  /-- `CAPSTAT_REARM` (R401) -/
  | capstatRearm (i : Init) (data : Word)
  /-- `DEBUG_HALT` (R404) -/
  | debugHalt (halt : Bool)
  /-- `DBG_NONCE` (R408) -/
  | dbgNonce (i : Init) (data : Word)
  /-- `DBG_RESP` (R408) -/
  | dbgResp (i : Init) (data : Word)
  /-- `RELOCK_DEBUG` (R407) -/
  | dbgRelock (i : Init) (data : Word)
  /-- `REC_RECORD_WRITE` (R416) -/
  | recRecordWrite
  /-- `REC_FLUSH_START` (R423) -/
  | recFlushStart
  /-- `FLUSH` (R423) -/
  | recFlush (i : Init) (data : Word)
  /-- `HDR` (R422) -/
  | recHdr (i : Init) (data : Word)
  /-- `REC_STORE_WRITE_DONE` (R423) -/
  | recStoreWriteDone (r : StoreReply)
  /-- `REC_HEADER_PERIODIC` (R422) -/
  | recHeaderPeriodic
  /-- `REC_STORE_RETRY` (R420) -/
  | recStoreRetry
  /-- `REC_STARTUP` (R425) -/
  | recStartup (wrOk : Bool)
  /-- `STORE_READ` (R426) -/
  | storeRead (i : Init) (data : Word)
  /-- `STORE_WRITE` (R426) -/
  | storeWrite (i : Init) (data : Word)
  /-- `SACC` (R426) -/
  | storeAccessDone (ok : Bool)
  /-- `CLR_NONCE` (R427) -/
  | clrNonce (i : Init) (data : Word)
  /-- `CLR_RESP` (R427) -/
  | clrResp (i : Init) (lo : Word) (hi : Word)
  /-- `CLEAR_CHECK` (R427) -/
  | clearCheck
  /-- `OTP_READ` (R438) -/
  | otpRead (i : Init) (data : Word)
  /-- `OTP_READ_DONE` (R438) -/
  | otpReadDone
  /-- `PROGRAM` (R442) -/
  | otpProgram (i : Init) (key : Byte) (vqps : Bool)
  /-- `FINALISE` (R442) -/
  | otpFinalise (i : Init) (key : Byte) (region : BitVec 3) (vqps : Bool)
  /-- `LIFE` (R436) -/
  | otpLife (i : Init) (key : Byte) (target : BitVec 3) (vqps : Bool)
  /-- `OTP_CMD_DONE` (R442) -/
  | otpCmdDone (fail : Option Nat)
  /-- `PGM_ABORT` (R443) -/
  | pgmAbort (bit : Nat)
  /-- `PLINTH_SUPPLY_SAMPLE` (R449) -/
  | plinthSupplySample (vin : VinLevel) (vbak : Bool)
  /-- `RTC_SECOND_CARRY` (R453) -/
  | rtcSecondCarry
  /-- `RTC_WAKE_PERIOD` (R460) -/
  | rtcWakePeriod
  /-- `EVIN_EDGE` (R462) -/
  | evinEdge (input : Fin 4) (rising : Bool) (held : Bool) (cycles : Nat)
  /-- `LOAD` (R455) -/
  | rtcLoad (i : Init) (cycles : Nat)
  /-- `SHIFT` (R456) -/
  | rtcShift (i : Init) (cycles : Nat)
  /-- `SNAP` (R458) -/
  | rtcSnap (i : Init) (cycles : Nat)
  /-- `ARM` (R459) -/
  | rtcArm (i : Init) (cycles : Nat)
  /-- `POP` (R463) -/
  | rtcPop (i : Init) (inputs : BitVec 4) (cycles : Nat)
  /-- `RTC_ALARM_WRITE` (R459) -/
  | rtcAlarmWrite (i : Init) (high : Bool) (data : Word) (cycles : Nat)
  /-- `TLOST_CLEAR` (R451) -/
  | tlostClear (i : Init) (cycles : Nat)
  /-- `RTC_CAL_READ` (R452) -/
  | rtcCalRead (i : Init) (reg : Fin 3)
  /-- `OSC_STOP` (R465) -/
  | oscStop
  /-- `ULK_ENABLE` (R480) -/
  | ulkEnable (i : Init) (port : Fin 4)
  /-- `ULK_DISABLE` (R480) -/
  | ulkDisable (i : Init) (port : Fin 4)
  /-- `SIGNAL_DETECT` (R472) -/
  | signalDetect (port : Fin 4)
  /-- `SIGLOST` (R488) -/
  | siglost (port : Fin 4)
  /-- `TS1` (R480) -/
  | linkTs1 (port : Fin 4) (x : TsIn)
  /-- `TS2` (R480) -/
  | linkTs2 (port : Fin 4) (x : TsIn) (sent16 : Bool)
  /-- `TRAIN_TIMEOUT` (R480) -/
  | trainTimeout (port : Fin 4)
  /-- `RETRAIN_TIMEOUT` (R480) -/
  | retrainTimeout (port : Fin 4)
  /-- `DOWN_EXIT` (R480) -/
  | downExit (port : Fin 4)
  /-- `RETRAIN` (R487) -/
  | linkRetrain (port : Fin 4) (err : LineErr)
  /-- `PACKET_RECEIVED` (R485) -/
  | packetReceived (port : Fin 4) (x : PacketIn)
  /-- `ACK` (R486) -/
  | linkAck (port : Fin 4) (x : LcfIn)
  /-- `NAK` (R486) -/
  | linkNak (port : Fin 4) (x : LcfIn)
  /-- `REPLAY_TO` (R486) -/
  | replayTo (port : Fin 4)
  /-- `NAK_RESEND` (R485) -/
  | nakResend (port : Fin 4)
  /-- `ACK_TIMER` (R485) -/
  | ackTimer (port : Fin 4)
  /-- `PACKET_TRANSMIT` (R486) -/
  | packetTransmit (port : Fin 4) (ahead : Nat)
  /-- `ULK_CNTCLR` (R491) -/
  | ulkCntclr (i : Init) (port : Fin 4) (data : Word)
  /-- `LINK_RD_REQUEST` (R498) -/
  | linkRdRequest (port : Fin 4)
  /-- `LINK_WR_REQUEST` (R498) -/
  | linkWrRequest (port : Fin 4)
  /-- `LINK_WRN_REQUEST` (R498) -/
  | linkWrnRequest (port : Fin 4)
  /-- `LINK_FENCE_REQUEST` (R503) -/
  | linkFenceRequest (port : Fin 4)
  /-- `BCAST` (R498) -/
  | linkBcast (port : Fin 4)
  /-- `SUMMARY` (R507) -/
  | linkSummary (port : Fin 4)
  /-- `TIMESYNC_REQ` (R521) -/
  | timesyncReq (port : Fin 4)
  /-- `TIMESYNC_RSP` (R521) -/
  | timesyncRsp (port : Fin 4)
  /-- `BARRIER_MESSAGE` (R528) -/
  | barrierMessage (port : Fin 4)
  /-- `EVENT_MESSAGE` (R498) -/
  | eventMessage (port : Fin 4)
  /-- `COMPLETION_RECEIVED` (R501) -/
  | completionReceived (port : Fin 4)
  /-- `TAG_TIMEOUT` (R501) -/
  | tagTimeout (port : Fin 4) (tag : BitVec 7)
  /-- `HOLD_DROP` (R504) -/
  | holdDrop (port : Fin 4)
  /-- `APPLY` (R496) -/
  | tabApply (i : Init) (data : Word)
  /-- `SUMMARY_SEND` (R507) -/
  | summarySend
  /-- `SUMMARY_FORWARD` (R507) -/
  | summaryForward
  /-- `ROLE_CLAIM` (R510) -/
  | roleClaim
  /-- `CLAIM_EXPIRE` (R510) -/
  | claimExpire
  /-- `DEFAULT_ROLE_ASSIGN` (R511) -/
  | defaultRoleAssign
  /-- `RING_WALK_START` (R512) -/
  | ringWalkStart (zone : Bool)
  /-- `RING_WALK_DONE` (R512) -/
  | ringWalkDone
  /-- `TIMESYNC_REQ_SEND` (R521) -/
  | timesyncReqSend
  /-- `PT_LOST` (R524) -/
  | ptLost
  /-- `PT_STEP` (R525) -/
  | ptStep
  /-- `PTM_STEP` (R525) -/
  | ptmStep (i : Init)
  /-- `PTM_ACQ` (R533) -/
  | ptmAcq (i : Init)
  /-- `SETT` (R525) -/
  | ptmSett (i : Init)
  /-- `PTIME_READ` (R533) -/
  | ptimeRead (i : Init)
  /-- `BARRIER_RELEASE` (R528) -/
  | barrierRelease
  /-- `SEND` (R530) -/
  | barSend (i : Init)
  /-- `SCHEDULE_SEND` (R531) -/
  | scheduleSend
  /-- `POWER_FAIL_RELEASE` (R62) -/
  | powerFailRelease
  /-- `CLEAR_TIMEOUT` (R427) -/
  | clearTimeout
  /-- `PLINTH_WRITE_EFFECT` (R452) -/
  | plinthWriteEffect (cycles : Nat)
  /-- `HOST_PORT_RESET_END` (R122) -/
  | hostPortResetEnd
  deriving DecidableEq, Repr

end Sys2Proof
end

