-- ==== Sys2Proof/Decode.lean ====
section
/-!
DEFINITION. Sys2Proof/Decode.lean: the command that a word of the table spells.

The block has no instruction words: no row of spec/opcode_table.json gives bits (its "fields" are empty in every row), so no word spells
a command.
-/

namespace Sys2Proof

/-- The rows of the table that give bits: none. -/
def decodeRows : List (Nat × Nat × Instr) := []

/-- The command that the lowest `nbits` bits `w` spell: the row whose length and bits they are. -/
def decodeTableWord (nbits w : Nat) : Option Instr :=
  (decodeRows.find? (fun r => r.1 == nbits && r.2.1 == w)).map (fun r => r.2.2)

end Sys2Proof
end

