-- ==== Sys2Proof/Machine/Fields.lean ====
section
/-!
DEFINITION. Sys2Proof/Machine/Fields.lean: the register fields by the names the register maps give them.

`PAGE_REG_FIELD` is the place of one field: its register's byte address in the register space (page index in
bits [15:8], R27), its lowest bit and its width.  Fields of LANE and ULK pages take the lane or port number,
and fields of a register array take the index after it.
-/

namespace Sys2Proof.Machine

/-- A register field: register address, lowest bit, width. -/
structure Fld where
  addr : Nat
  lo : Nat
  w : Nat
  deriving DecidableEq, Repr

def PSQ_CMD_REQ : Fld := ⟨0x320, 0, 2⟩
def PSQ_STATE_ST : Fld := ⟨0x324, 0, 4⟩
def PSQ_STATE_STEP : Fld := ⟨0x324, 4, 4⟩
def PSQ_STATE_PEND_ON : Fld := ⟨0x324, 8, 1⟩
def PSQ_STATE_ENXLVL : Fld := ⟨0x324, 16, 8⟩
def PSQ_ORDER_SLOT : Fld := ⟨0x328, 0, 24⟩
def PSQ_ORDER_N : Fld := ⟨0x328, 24, 4⟩
def PSQ_MINOFF_MINOFF : Fld := ⟨0x32C, 0, 8⟩
def PSQ_RTIM_TO_UP (k : Nat) : Fld := ⟨0x330 + 4 * k, 0, 8⟩
def PSQ_RTIM_DLY_UP (k : Nat) : Fld := ⟨0x330 + 4 * k, 8, 8⟩
def PSQ_RTIM_DLY_DN (k : Nat) : Fld := ⟨0x330 + 4 * k, 16, 8⟩
def PSQ_RTIM_PF_DROP (k : Nat) : Fld := ⟨0x330 + 4 * k, 24, 1⟩
def PSQ_LASTFAIL_SLOT : Fld := ⟨0x350, 0, 4⟩
def PSQ_LASTFAIL_CAUSE : Fld := ⟨0x350, 4, 2⟩
def PSQ_LASTFAIL_INT : Fld := ⟨0x350, 6, 1⟩
def PSQ_LASTFAIL_VALID : Fld := ⟨0x350, 7, 1⟩
def PSQ_HKSTAT_HK0_ILIM : Fld := ⟨0x354, 0, 1⟩
def PSQ_HKSTAT_HK1_ILIM : Fld := ⟨0x354, 1, 1⟩
def PSQ_HKSTAT_HK0_SS : Fld := ⟨0x354, 2, 1⟩
def PSQ_HKSTAT_HK1_SS : Fld := ⟨0x354, 3, 1⟩
def PSQ_HKSTAT_LDO_ILIM : Fld := ⟨0x354, 4, 3⟩
def PSQ_HKSTAT_PFLIVE : Fld := ⟨0x354, 7, 1⟩
def SUP_RAILCFG_UV_TH (k : Nat) : Fld := ⟨0x420 + 4 * k, 0, 12⟩
def SUP_RAILCFG_OV_TH (k : Nat) : Fld := ⟨0x420 + 4 * k, 12, 12⟩
def SUP_RAILCFG_FILT (k : Nat) : Fld := ⟨0x420 + 4 * k, 24, 4⟩
def SUP_RAILCFG_ACT (k : Nat) : Fld := ⟨0x420 + 4 * k, 28, 2⟩
def SUP_RAILCFG_MONEN (k : Nat) : Fld := ⟨0x420 + 4 * k, 31, 1⟩
def SUP_RAILTIM_STAB (k : Nat) : Fld := ⟨0x460 + 4 * k, 0, 8⟩
def SUP_RAILTIM_CHTH (k : Nat) : Fld := ⟨0x460 + 4 * k, 8, 8⟩
def SUP_RAILCNT_UVCNT (k : Nat) : Fld := ⟨0x4A0 + 4 * k, 0, 8⟩
def SUP_RAILCNT_OVCNT (k : Nat) : Fld := ⟨0x4A0 + 4 * k, 8, 8⟩
def SUP_RAILCNT_TOCNT (k : Nat) : Fld := ⟨0x4A0 + 4 * k, 16, 8⟩
def SUP_RAILCNT_CHCNT (k : Nat) : Fld := ⟨0x4A0 + 4 * k, 24, 8⟩
def SUP_GOOD_GOOD : Fld := ⟨0x4E0, 0, 16⟩
def SUP_GOOD_INWIN : Fld := ⟨0x4E0, 16, 16⟩
def SUP_FLAGS_UVF : Fld := ⟨0x4E4, 0, 16⟩
def SUP_FLAGS_OVF : Fld := ⟨0x4E4, 16, 16⟩
def SUP_CHATF_CHATF : Fld := ⟨0x4E8, 0, 16⟩
def SUP_CNTCLR_CLR : Fld := ⟨0x4EC, 0, 16⟩
def SUP_SEL_SEL : Fld := ⟨0x4F0, 0, 4⟩
def SUP_SAMPLE_CODE : Fld := ⟨0x4F4, 0, 12⟩
def SUP_SAMPLE_SCANCNT : Fld := ⟨0x4F4, 16, 16⟩
def SUP_HYS_HYS : Fld := ⟨0x4F8, 0, 8⟩
def CLK_CFG_HOLDMAX : Fld := ⟨0x120, 0, 16⟩
def CLK_STAT_PLL_LOCK : Fld := ⟨0x124, 0, 1⟩
def CLK_STAT_DL_LOCK : Fld := ⟨0x124, 1, 1⟩
def CLK_STAT_REF_OK : Fld := ⟨0x124, 2, 1⟩
def CLK_STAT_HOLDOVER : Fld := ⟨0x124, 3, 1⟩
def CLK_STAT_RELOCKING : Fld := ⟨0x124, 4, 1⟩
def CLK_RELOCK_GO : Fld := ⟨0x128, 0, 1⟩
def CLK_MONCNT_REFCNT : Fld := ⟨0x12C, 0, 8⟩
def CLK_MONCNT_SYSCNT : Fld := ⟨0x12C, 8, 12⟩
def CLK_HOLDTIME_MS : Fld := ⟨0x130, 0, 16⟩
def RST_CMD_SCOPE : Fld := ⟨0x220, 0, 3⟩
def RST_CMD_PORTSEL : Fld := ⟨0x220, 4, 3⟩
def RST_CMD_KEY : Fld := ⟨0x220, 24, 8⟩
def RST_CHMASK0_LANES : Fld := ⟨0x224, 0, 32⟩
def RST_CHMASK1_LANES : Fld := ⟨0x228, 0, 32⟩
def RST_CAUSE_CAUSE : Fld := ⟨0x22C, 0, 10⟩
def RST_LAST_CODE : Fld := ⟨0x230, 0, 4⟩
def RST_LAST_DEVCNT : Fld := ⟨0x230, 8, 8⟩
def HIF_CFG_CRCEN : Fld := ⟨0x1020, 0, 1⟩
def HIF_ERRSTAT_ADDR : Fld := ⟨0x1024, 0, 24⟩
def HIF_ERRSTAT_CODE : Fld := ⟨0x1024, 24, 3⟩
def HIF_ERRSTAT_VALID : Fld := ⟨0x1024, 31, 1⟩
def HIF_ERRCNT_CRCCNT : Fld := ⟨0x1028, 0, 8⟩
def HIF_ERRCNT_ADDRCNT : Fld := ⟨0x1028, 8, 8⟩
def HIF_ERRCNT_STALECNT : Fld := ⟨0x1028, 16, 8⟩
def HIF_ERRCNT_OTHCNT : Fld := ⟨0x1028, 24, 8⟩
def HIF_CNTCLR_CLR : Fld := ⟨0x102C, 0, 1⟩
def HIF_FRAMES_COUNT : Fld := ⟨0x1030, 0, 32⟩
def HIF_QSTAT_DEPTH : Fld := ⟨0x1034, 0, 6⟩
def SYS_DEVID_PART : Fld := ⟨0x20, 0, 16⟩
def SYS_STRAP_BOOTSEL : Fld := ⟨0x24, 0, 2⟩
def SYS_STRAP_HCRC : Fld := ⟨0x24, 2, 1⟩
def SYS_STRAP_TESTEN : Fld := ⟨0x24, 3, 1⟩
def SYS_STRAP_TESTACT : Fld := ⟨0x24, 4, 1⟩
def SYS_MODE_REQ : Fld := ⟨0x28, 0, 2⟩
def SYS_MODE_CUR : Fld := ⟨0x28, 4, 2⟩
def SYS_WAKEEN_EN : Fld := ⟨0x2C, 0, 11⟩
def SYS_WAKESRC_SRC : Fld := ⟨0x30, 0, 11⟩
def SYS_CMASK0_LANES : Fld := ⟨0x38, 0, 32⟩
def SYS_CMASK1_LANES : Fld := ⟨0x3C, 0, 32⟩
def SYS_COMMIT_TAG : Fld := ⟨0x40, 0, 8⟩
def SYS_COMMIT_DEV : Fld := ⟨0x40, 8, 1⟩
def SYS_PENDING0_LANES : Fld := ⟨0x44, 0, 32⟩
def SYS_PENDING1_LANES : Fld := ⟨0x48, 0, 32⟩
def SYS_CSTAT_DEVPEND : Fld := ⟨0x4C, 0, 1⟩
def SYS_CSTAT_LASTTAG : Fld := ⟨0x4C, 8, 8⟩
def SYS_EVSUM0_PAGES : Fld := ⟨0x50, 0, 32⟩
def SYS_EVSUM1_PAGES : Fld := ⟨0x54, 0, 32⟩
def SYS_EVSUM2_PAGES : Fld := ⟨0x58, 0, 32⟩
def SYS_IRQSUM_PAGES (k : Nat) : Fld := ⟨0x5C + 4 * k, 0, 32⟩
def SYS_IRQCTL_GEN : Fld := ⟨0x68, 0, 1⟩
def SYS_FLTEN_EN : Fld := ⟨0x6C, 0, 8⟩
def SYS_FLTSRC_LANE_TRIP : Fld := ⟨0x70, 0, 1⟩
def SYS_FLTSRC_THERMAL : Fld := ⟨0x70, 1, 1⟩
def SYS_FLTSRC_RAIL : Fld := ⟨0x70, 2, 1⟩
def SYS_FLTSRC_EFU : Fld := ⟨0x70, 3, 1⟩
def SYS_FLTSRC_WDG : Fld := ⟨0x70, 4, 1⟩
def SYS_FLTSRC_CLOCK : Fld := ⟨0x70, 5, 1⟩
def SYS_FLTSRC_OTP : Fld := ⟨0x70, 6, 1⟩
def SYS_FLTSRC_SAFEIN : Fld := ⟨0x70, 7, 1⟩
def SYS_FRAME_COUNT : Fld := ⟨0x74, 0, 32⟩
def SYS_SCRATCH_DATA : Fld := ⟨0x78, 0, 32⟩
def LANE_MCFG_INJG (l : Nat) : Fld := ⟨0x4020 + 256 * l, 0, 2⟩
def LANE_MCFG_RINJ (l : Nat) : Fld := ⟨0x4020 + 256 * l, 8, 8⟩
def LANE_MCFG_FLLG (l : Nat) : Fld := ⟨0x4020 + 256 * l, 16, 4⟩
def LANE_MCFG_FLLEN (l : Nat) : Fld := ⟨0x4020 + 256 * l, 20, 1⟩
def LANE_DT_DTHL (l : Nat) : Fld := ⟨0x4024 + 256 * l, 0, 10⟩
def LANE_DT_DTLH (l : Nat) : Fld := ⟨0x4024 + 256 * l, 16, 10⟩
def LANE_BANDDT_M (l : Nat) : Fld := ⟨0x4028 + 256 * l, 0, 30⟩
def LANE_BANDCOMP_C (l : Nat) : Fld := ⟨0x402C + 256 * l, 0, 30⟩
def LANE_PHASE_LEAD (l : Nat) : Fld := ⟨0x4030 + 256 * l, 0, 8⟩
def LANE_PHASE_WIN (l : Nat) : Fld := ⟨0x4030 + 256 * l, 16, 12⟩
def LANE_LIMITS_TONMIN (l : Nat) : Fld := ⟨0x4034 + 256 * l, 0, 11⟩
def LANE_LIMITS_TOFFMIN (l : Nat) : Fld := ⟨0x4034 + 256 * l, 16, 11⟩
def LANE_RPATH_RPATH (l : Nat) : Fld := ⟨0x4038 + 256 * l, 0, 16⟩
def LANE_BSTCFG_BSTPRE (l : Nat) : Fld := ⟨0x403C + 256 * l, 0, 8⟩
def LANE_TON_TON (l : Nat) : Fld := ⟨0x4040 + 256 * l, 0, 16⟩
def LANE_TON_TIMED (l : Nat) : Fld := ⟨0x4040 + 256 * l, 16, 1⟩
def LANE_TON_CLMIN (l : Nat) : Fld := ⟨0x4040 + 256 * l, 17, 1⟩
def LANE_TON_CLMAX (l : Nat) : Fld := ⟨0x4040 + 256 * l, 18, 1⟩
def LANE_TON_SW (l : Nat) : Fld := ⟨0x4040 + 256 * l, 19, 1⟩
def LANE_TON_BAND (l : Nat) : Fld := ⟨0x4040 + 256 * l, 20, 3⟩
def LANE_TRIM_TRIM (l : Nat) : Fld := ⟨0x4044 + 256 * l, 0, 16⟩
def LANE_TRIM_SAT (l : Nat) : Fld := ⟨0x4044 + 256 * l, 16, 1⟩
def LANE_MCFG2_LRS (l : Nat) : Fld := ⟨0x4048 + 256 * l, 0, 16⟩
def LANE_THR_THR (l : Nat) : Fld := ⟨0x404C + 256 * l, 0, 14⟩
def LANE_THR_BSTUVCNT (l : Nat) : Fld := ⟨0x404C + 256 * l, 16, 8⟩
def LANE_THR_INTLKCNT (l : Nat) : Fld := ⟨0x404C + 256 * l, 24, 8⟩
def PTM_MREFCTL_SYNCEN : Fld := ⟨0x15C0, 0, 1⟩
def PTM_MREFCTL_GLIDE : Fld := ⟨0x15C0, 4, 3⟩
def PTM_MREFPINT_PINT : Fld := ⟨0x15C4, 0, 16⟩
def PTM_MREFDLY_SYNCDLY : Fld := ⟨0x15C8, 0, 16⟩
def PTM_MREFCMD_ACQ : Fld := ⟨0x15CC, 0, 1⟩
def PTM_MREFSTAT_ST : Fld := ⟨0x15D0, 0, 3⟩
def PTM_MREFSTAT_SYNCPRES : Fld := ⟨0x15D0, 3, 1⟩
def PTM_MREFSTAT_PERIOD : Fld := ⟨0x15D0, 16, 16⟩
def PTM_SYNCPER_PER : Fld := ⟨0x15D4, 0, 16⟩
def PTM_SYNCPER_EDGES : Fld := ⟨0x15D4, 16, 16⟩
def PTM_SYNCERR_ERR : Fld := ⟨0x15D8, 0, 16⟩
def LANE_GROUP_W (l : Nat) : Fld := ⟨0x4050 + 256 * l, 0, 2⟩
def LANE_PHOFF_OFF (l : Nat) : Fld := ⟨0x4054 + 256 * l, 0, 6⟩
def LANE_LANELIM_ILANE (l : Nat) : Fld := ⟨0x4058 + 256 * l, 0, 16⟩
def LANE_LANELIM_OCPK (l : Nat) : Fld := ⟨0x4058 + 256 * l, 16, 13⟩
def LANE_RSH_RSH (l : Nat) : Fld := ⟨0x405C + 256 * l, 0, 16⟩
def LANE_RSH_OCN (l : Nat) : Fld := ⟨0x405C + 256 * l, 16, 8⟩
def LANE_RSH_OCFR (l : Nat) : Fld := ⟨0x405C + 256 * l, 24, 8⟩
def LANE_LSTAT_LEADLN (l : Nat) : Fld := ⟨0x4064 + 256 * l, 0, 6⟩
def LANE_LSTAT_W (l : Nat) : Fld := ⟨0x4064 + 256 * l, 8, 2⟩
def LANE_LSTAT_SHED (l : Nat) : Fld := ⟨0x4064 + 256 * l, 10, 1⟩
def LANE_LSTAT_PHCAUSE (l : Nat) : Fld := ⟨0x4064 + 256 * l, 12, 4⟩
def LANE_LSTAT_OCF (l : Nat) : Fld := ⟨0x4064 + 256 * l, 16, 8⟩
def LANE_LCNT_OCCNT (l : Nat) : Fld := ⟨0x4068 + 256 * l, 0, 16⟩
def LANE_LCNT_BRKCNT (l : Nat) : Fld := ⟨0x4068 + 256 * l, 16, 16⟩
def LANE_CHCTL_RUN (l : Nat) : Fld := ⟨0x406C + 256 * l, 0, 1⟩
def LANE_CHCTL_LOCCLR (l : Nat) : Fld := ⟨0x406C + 256 * l, 1, 1⟩
def LANE_CHCTL_SHEDCLR (l : Nat) : Fld := ⟨0x406C + 256 * l, 2, 1⟩
def LANE_MODE_MODE (l : Nat) : Fld := ⟨0x4070 + 256 * l, 0, 2⟩
def LANE_SETPT_SETPT (l : Nat) : Fld := ⟨0x4074 + 256 * l, 0, 32⟩
def LANE_SLEW_SLEW (l : Nat) : Fld := ⟨0x4078 + 256 * l, 0, 32⟩
def LANE_ILIM_ILIMC (l : Nat) : Fld := ⟨0x407C + 256 * l, 0, 16⟩
def LANE_ILIM_ILIMD (l : Nat) : Fld := ⟨0x407C + 256 * l, 16, 16⟩
def LANE_VCLMP_VCLMPH (l : Nat) : Fld := ⟨0x4080 + 256 * l, 0, 16⟩
def LANE_VCLMP_VCLMPL (l : Nat) : Fld := ⟨0x4080 + 256 * l, 16, 16⟩
def LANE_GAINS_KP (l : Nat) : Fld := ⟨0x4084 + 256 * l, 0, 16⟩
def LANE_GAINS_KI (l : Nat) : Fld := ⟨0x4084 + 256 * l, 16, 16⟩
def LANE_LOCCFG_ACTION (l : Nat) : Fld := ⟨0x4088 + 256 * l, 0, 2⟩
def LANE_LOCCFG_HOLDT (l : Nat) : Fld := ⟨0x4088 + 256 * l, 16, 16⟩
def LANE_STOPCFG_STOPSLEW (l : Nat) : Fld := ⟨0x408C + 256 * l, 0, 12⟩
def LANE_STOPCFG_LLCUR (l : Nat) : Fld := ⟨0x408C + 256 * l, 12, 12⟩
def LANE_STOPCFG_ISOSET (l : Nat) : Fld := ⟨0x408C + 256 * l, 24, 8⟩
def LANE_HARDLIM_HVMAX (l : Nat) : Fld := ⟨0x4090 + 256 * l, 0, 16⟩
def LANE_HARDLIM_HVMIN (l : Nat) : Fld := ⟨0x4090 + 256 * l, 16, 16⟩
def LANE_PHCFG_PHMIN (l : Nat) : Fld := ⟨0x4094 + 256 * l, 0, 12⟩
def LANE_PHCFG_OPENN (l : Nat) : Fld := ⟨0x4094 + 256 * l, 12, 4⟩
def LANE_PHCFG_SENSDIS (l : Nat) : Fld := ⟨0x4094 + 256 * l, 16, 8⟩
def LANE_PHCFG_SHEDMAX (l : Nat) : Fld := ⟨0x4094 + 256 * l, 24, 3⟩
def LANE_CHSTAT_STATE (l : Nat) : Fld := ⟨0x4098 + 256 * l, 0, 3⟩
def LANE_CHSTAT_SLEWING (l : Nat) : Fld := ⟨0x4098 + 256 * l, 3, 1⟩
def LANE_CHSTAT_LIMSRC (l : Nat) : Fld := ⟨0x4098 + 256 * l, 4, 2⟩
def LANE_CHSTAT_GRANTLIM (l : Nat) : Fld := ⟨0x4098 + 256 * l, 6, 1⟩
def LANE_CHSTAT_DERATED (l : Nat) : Fld := ⟨0x4098 + 256 * l, 7, 1⟩
def LANE_CHSTAT_TSEQ (l : Nat) : Fld := ⟨0x4098 + 256 * l, 8, 8⟩
def LANE_CHSTAT_DONESEQ (l : Nat) : Fld := ⟨0x4098 + 256 * l, 16, 8⟩
def LANE_CHSTAT_ACTIVE (l : Nat) : Fld := ⟨0x4098 + 256 * l, 24, 4⟩
def LANE_CHSTAT_REJ (l : Nat) : Fld := ⟨0x4098 + 256 * l, 28, 4⟩
def LANE_DEMAND_DEMAND (l : Nat) : Fld := ⟨0x409C + 256 * l, 0, 32⟩
def CAL_CFG_XREFEN : Fld := ⟨0xC20, 0, 1⟩
def CAL_CFG_LINEN : Fld := ⟨0xC20, 1, 1⟩
def CAL_CFG_RDNHOLD : Fld := ⟨0xC20, 8, 8⟩
def CAL_CFG_RAMP : Fld := ⟨0xC20, 16, 16⟩
def CAL_RANGETH_RUP : Fld := ⟨0xC24, 0, 14⟩
def CAL_RANGETH_RDN : Fld := ⟨0xC24, 16, 14⟩
def CAL_XREFV_XREFV : Fld := ⟨0xC28, 0, 23⟩
def CAL_VREFEST_VREF : Fld := ⟨0xC2C, 0, 23⟩
def CAL_MATCH_MATCHTOL : Fld := ⟨0xC30, 0, 16⟩
def CAL_MATCH_MISLIM : Fld := ⟨0xC30, 16, 16⟩
def CAL_CALLIM_OFSLIM : Fld := ⟨0xC34, 0, 16⟩
def CAL_CALLIM_GAINLIM : Fld := ⟨0xC34, 16, 16⟩
def CAL_THCFG_RNOM : Fld := ⟨0xC38, 0, 16⟩
def CAL_THCFG_BETA : Fld := ⟨0xC38, 16, 16⟩
def CAL_CSEL_CONV : Fld := ⟨0xC3C, 0, 8⟩
def CAL_CSEL_BAND : Fld := ⟨0xC3C, 8, 3⟩
def CAL_CSEL_RNG : Fld := ⟨0xC3C, 12, 2⟩
def CAL_CSEL_WORD : Fld := ⟨0xC3C, 16, 2⟩
def CAL_CDATA_DATA : Fld := ⟨0xC40, 0, 32⟩
def CAL_LSEL_LANE : Fld := ⟨0xC44, 0, 6⟩
def CAL_LISAMP_I : Fld := ⟨0xC48, 0, 32⟩
def CAL_LVSAMP_V : Fld := ⟨0xC4C, 0, 32⟩
def CAL_LIPREC_I : Fld := ⟨0xC50, 0, 32⟩
def CAL_LVPREC_V : Fld := ⟨0xC54, 0, 32⟩
def CAL_LTEMP_T : Fld := ⟨0xC58, 0, 16⟩
def CAL_LTEMP_TH_OPEN : Fld := ⟨0xC58, 16, 1⟩
def CAL_LTEMP_TH_SHORT : Fld := ⟨0xC58, 17, 1⟩
def CAL_ROVESEL_SPARE : Fld := ⟨0xC5C, 0, 3⟩
def CAL_ROVESTAT_TARGET : Fld := ⟨0xC60, 0, 8⟩
def CAL_ROVESTAT_PHASE : Fld := ⟨0xC60, 8, 3⟩
def CAL_ROVESTAT_SLOT : Fld := ⟨0xC60, 11, 5⟩
def CAL_ROVESTAT_PARKEDON : Fld := ⟨0xC60, 16, 8⟩
def CAL_ROVESTAT_FAILED : Fld := ⟨0xC60, 24, 1⟩
def CAL_ROVESTAT_FALLBACK : Fld := ⟨0xC60, 25, 1⟩
def CAL_VISITS_COUNT : Fld := ⟨0xC64, 0, 32⟩
def CAL_EVCNT_DRIFTCNT : Fld := ⟨0xC68, 0, 8⟩
def CAL_EVCNT_MISCNT : Fld := ⟨0xC68, 8, 8⟩
def CAL_EVCNT_CONVFLT : Fld := ⟨0xC68, 16, 8⟩
def CAL_EVCNT_SKIPCNT : Fld := ⟨0xC68, 24, 8⟩
def CAL_FAULT_MAP (k : Nat) : Fld := ⟨0xC6C + 4 * k, 0, 32⟩
def CAL_ACCCLR0_LANES : Fld := ⟨0xC80, 0, 32⟩
def CAL_ACCCLR1_LANES : Fld := ⟨0xC84, 0, 32⟩
def LANE_MCTL_RANGE (l : Nat) : Fld := ⟨0x40E0 + 256 * l, 0, 2⟩
def LANE_MCTL_SHTRIM (l : Nat) : Fld := ⟨0x40E0 + 256 * l, 16, 16⟩
def LANE_MSTAT_RNG (l : Nat) : Fld := ⟨0x40E4 + 256 * l, 0, 1⟩
def LANE_MSTAT_SUBI (l : Nat) : Fld := ⟨0x40E4 + 256 * l, 1, 1⟩
def LANE_MSTAT_SUBV (l : Nat) : Fld := ⟨0x40E4 + 256 * l, 2, 1⟩
def LANE_MSTAT_PRATE (l : Nat) : Fld := ⟨0x40E4 + 256 * l, 3, 1⟩
def LANE_MSTAT_OVRI (l : Nat) : Fld := ⟨0x40E4 + 256 * l, 4, 1⟩
def LANE_MSTAT_OVRV (l : Nat) : Fld := ⟨0x40E4 + 256 * l, 5, 1⟩
def LANE_MSTAT_IFLT (l : Nat) : Fld := ⟨0x40E4 + 256 * l, 6, 1⟩
def LANE_MSTAT_VFLT (l : Nat) : Fld := ⟨0x40E4 + 256 * l, 7, 1⟩
def LANE_MSTAT_PSWAP (l : Nat) : Fld := ⟨0x40E4 + 256 * l, 8, 1⟩
def LANE_MSTAT_PRSW (l : Nat) : Fld := ⟨0x40E4 + 256 * l, 9, 1⟩
def LANE_MSTAT_PBAND (l : Nat) : Fld := ⟨0x40E4 + 256 * l, 10, 1⟩
def LANE_MSTAT_RSWCNT (l : Nat) : Fld := ⟨0x40E4 + 256 * l, 16, 16⟩
def LANE_QACCL_Q (l : Nat) : Fld := ⟨0x40E8 + 256 * l, 0, 32⟩
def LANE_QACCH_Q (l : Nat) : Fld := ⟨0x40EC + 256 * l, 0, 32⟩
def LANE_EACCL_E (l : Nat) : Fld := ⟨0x40F0 + 256 * l, 0, 32⟩
def LANE_EACCH_E (l : Nat) : Fld := ⟨0x40F4 + 256 * l, 0, 32⟩
def LANE_RCTL_ENTRY (l : Nat) : Fld := ⟨0x40A0 + 256 * l, 0, 13⟩
def LANE_RCTL_CMD (l : Nat) : Fld := ⟨0x40A0 + 256 * l, 16, 3⟩
def LANE_RCFG_TQUAL (l : Nat) : Fld := ⟨0x40A4 + 256 * l, 0, 8⟩
def LANE_RCFG_FHEN (l : Nat) : Fld := ⟨0x40A4 + 256 * l, 8, 1⟩
def LANE_RCFG_PAUSEMODE (l : Nat) : Fld := ⟨0x40A4 + 256 * l, 9, 1⟩
def LANE_RCFG_FHIDX (l : Nat) : Fld := ⟨0x40A4 + 256 * l, 16, 13⟩
def LANE_RSTAT_STEP (l : Nat) : Fld := ⟨0x40A8 + 256 * l, 0, 13⟩
def LANE_RSTAT_ESTATE (l : Nat) : Fld := ⟨0x40A8 + 256 * l, 13, 3⟩
def LANE_RSTAT_TYPE (l : Nat) : Fld := ⟨0x40A8 + 256 * l, 16, 4⟩
def LANE_RSTAT_DEPTH (l : Nat) : Fld := ⟨0x40A8 + 256 * l, 20, 3⟩
def LANE_RSTAT_INFH (l : Nat) : Fld := ⟨0x40A8 + 256 * l, 23, 1⟩
def LANE_RSTAT_FIRED (l : Nat) : Fld := ⟨0x40A8 + 256 * l, 24, 6⟩
def LANE_RSTAT_THERMAL (l : Nat) : Fld := ⟨0x40A8 + 256 * l, 30, 1⟩
def LANE_RESULT_REASON (l : Nat) : Fld := ⟨0x40AC + 256 * l, 0, 8⟩
def LANE_RESULT_QUAL (l : Nat) : Fld := ⟨0x40AC + 256 * l, 8, 8⟩
def LANE_RESULT_FSTEP (l : Nat) : Fld := ⟨0x40AC + 256 * l, 16, 13⟩
def LANE_RTIME_MS (l : Nat) : Fld := ⟨0x40B0 + 256 * l, 0, 32⟩
def RCP_CFG_CHKEN : Fld := ⟨0x1820, 0, 1⟩
def RCP_RUNMASK0_LANES : Fld := ⟨0x1824, 0, 32⟩
def RCP_RUNMASK1_LANES : Fld := ⟨0x1828, 0, 32⟩
def RCP_WAITMASK0_LANES : Fld := ⟨0x182C, 0, 32⟩
def RCP_WAITMASK1_LANES : Fld := ⟨0x1830, 0, 32⟩
def RCP_ENDMASK0_LANES : Fld := ⟨0x1834, 0, 32⟩
def RCP_ENDMASK1_LANES : Fld := ⟨0x1838, 0, 32⟩
def RCP_FLTMASK0_LANES : Fld := ⟨0x183C, 0, 32⟩
def RCP_FLTMASK1_LANES : Fld := ⟨0x1840, 0, 32⟩
def RCP_MARKMASK0_LANES : Fld := ⟨0x1844, 0, 32⟩
def RCP_MARKMASK1_LANES : Fld := ⟨0x1848, 0, 32⟩
def RCP_BARREL_GROUP : Fld := ⟨0x184C, 0, 16⟩
def RCP_EBUF_DATA (k : Nat) : Fld := ⟨0x1850 + 4 * k, 0, 32⟩
def RCP_ECMD_INDEX : Fld := ⟨0x1870, 0, 13⟩
def RCP_ECMD_DEFER : Fld := ⟨0x1870, 16, 1⟩
def RCP_ESTAT_EPEND : Fld := ⟨0x1874, 0, 1⟩
def RCP_ESTAT_EIDX : Fld := ⟨0x1874, 16, 13⟩
def RCP_LSEL_LANE : Fld := ⟨0x1878, 0, 6⟩
def RCP_MARKID_ID : Fld := ⟨0x187C, 0, 8⟩
def RCP_MARKID_STEP : Fld := ⟨0x187C, 16, 13⟩
def RCP_MARKFRM_FRAME : Fld := ⟨0x1880, 0, 32⟩
def RCP_MARKQL_Q : Fld := ⟨0x1884, 0, 32⟩
def RCP_MARKQH_Q : Fld := ⟨0x1888, 0, 32⟩
def RCP_MARKEL_E : Fld := ⟨0x188C, 0, 32⟩
def RCP_MARKEH_E : Fld := ⟨0x1890, 0, 32⟩
def RCP_OCVR_V : Fld := ⟨0x1894, 0, 32⟩
def RCP_LOOP_CNT (k : Nat) : Fld := ⟨0x1898 + 4 * k, 0, 16⟩
def RCP_LOOP_OWNER (k : Nat) : Fld := ⟨0x1898 + 4 * k, 16, 13⟩
def LANE_CHGSTAT_PHASE (l : Nat) : Fld := ⟨0x40B4 + 256 * l, 0, 3⟩
def LANE_CHGSTAT_ZONE (l : Nat) : Fld := ⟨0x40B4 + 256 * l, 3, 3⟩
def LANE_CHGSTAT_SUSP (l : Nat) : Fld := ⟨0x40B4 + 256 * l, 6, 1⟩
def LANE_CHGSTAT_HALF (l : Nat) : Fld := ⟨0x40B4 + 256 * l, 7, 1⟩
def LANE_CHGSTAT_TERMC (l : Nat) : Fld := ⟨0x40B4 + 256 * l, 8, 3⟩
def LANE_CHGSTAT_PTEXP (l : Nat) : Fld := ⟨0x40B4 + 256 * l, 11, 1⟩
def LANE_CHGSTAT_NIMH (l : Nat) : Fld := ⟨0x40B4 + 256 * l, 12, 1⟩
def LANE_CHGSTAT_STALLN (l : Nat) : Fld := ⟨0x40B4 + 256 * l, 13, 2⟩
def LANE_CHGSTAT_ACT (l : Nat) : Fld := ⟨0x40B4 + 256 * l, 15, 1⟩
def LANE_CHGSTAT_NDV (l : Nat) : Fld := ⟨0x40B4 + 256 * l, 16, 8⟩
def LANE_CHGTMR_PTIME (l : Nat) : Fld := ⟨0x40B8 + 256 * l, 0, 32⟩
def LANE_CONTACT_CLEN (l : Nat) : Fld := ⟨0x40BC + 256 * l, 0, 1⟩
def LANE_CONTACT_CLSTEP (l : Nat) : Fld := ⟨0x40BC + 256 * l, 8, 8⟩
def LANE_CONTACT_CLDIS (l : Nat) : Fld := ⟨0x40BC + 256 * l, 16, 8⟩
def LANE_CONTACT_RFS (l : Nat) : Fld := ⟨0x40BC + 256 * l, 24, 8⟩
def BUS_CFG_ETAC : Fld := ⟨0xB20, 0, 8⟩
def BUS_CFG_ETAD : Fld := ⟨0xB20, 8, 8⟩
def BUS_CFG_EXPEN : Fld := ⟨0xB20, 16, 1⟩
def BUS_CFG_CORREN : Fld := ⟨0xB20, 17, 1⟩
def BUS_CFG_AGEMAX : Fld := ⟨0xB20, 24, 6⟩
def BUS_IMPLIM_IMPLIM : Fld := ⟨0xB24, 0, 16⟩
def BUS_IMPLIM_BASEI : Fld := ⟨0xB24, 16, 16⟩
def BUS_EXPLIM_EXPLIM : Fld := ⟨0xB28, 0, 16⟩
def BUS_DROOP_VDRPLO : Fld := ⟨0xB2C, 0, 16⟩
def BUS_DROOP_VDRPHI : Fld := ⟨0xB2C, 16, 16⟩
def BUS_VBLIM_BUSUV : Fld := ⟨0xB30, 0, 16⟩
def BUS_VBLIM_BUSOV : Fld := ⟨0xB30, 16, 16⟩
def BUS_VBUS_VB : Fld := ⟨0xB34, 0, 16⟩
def BUS_VBUS_PHI : Fld := ⟨0xB34, 16, 9⟩
def BUS_REQ_REQ : Fld := ⟨0xB38, 0, 16⟩
def BUS_REQ_OFFER : Fld := ⟨0xB38, 16, 16⟩
def BUS_GRANTSUM_GREQ : Fld := ⟨0xB3C, 0, 16⟩
def BUS_GRANTSUM_GOFF : Fld := ⟨0xB3C, 16, 16⟩
def BUS_NET_NET : Fld := ⟨0xB40, 0, 16⟩
def BUS_NET_COR : Fld := ⟨0xB40, 16, 16⟩
def BUS_ROT_START : Fld := ⟨0xB44, 0, 6⟩
def BUS_ROT_NCONT : Fld := ⟨0xB44, 8, 7⟩
def BUS_ROT_DIR : Fld := ⟨0xB44, 15, 1⟩
def BUS_CSEL_LANE : Fld := ⟨0xB48, 0, 6⟩
def BUS_CGRANT_GRANT : Fld := ⟨0xB4C, 0, 32⟩
def BUS_CAGE_AGE : Fld := ⟨0xB50, 0, 6⟩
def BUS_CAGE_AGED : Fld := ⟨0xB50, 6, 1⟩
def BUS_CAGE_AGESRV : Fld := ⟨0xB50, 16, 16⟩
def BUS_CNT_CONTFRM : Fld := ⟨0xB54, 0, 16⟩
def BUS_CNT_OVCNT : Fld := ⟨0xB54, 16, 8⟩
def BUS_CNT_UVCNT : Fld := ⟨0xB54, 24, 8⟩
def LANE_ESTCFG_TBL (l : Nat) : Fld := ⟨0x40C0 + 256 * l, 0, 3⟩
def LANE_ESTCFG_EN (l : Nat) : Fld := ⟨0x40C0 + 256 * l, 3, 1⟩
def LANE_ESTCFG_LRNEN (l : Nat) : Fld := ⟨0x40C0 + 256 * l, 4, 1⟩
def LANE_ESTCFG_LOWEN (l : Nat) : Fld := ⟨0x40C0 + 256 * l, 5, 1⟩
def LANE_ESTCFG_TREST (l : Nat) : Fld := ⟨0x40C0 + 256 * l, 8, 8⟩
def LANE_ESTCFG_IREST (l : Nat) : Fld := ⟨0x40C0 + 256 * l, 16, 16⟩
def LANE_ESTLIM_ILOW (l : Nat) : Fld := ⟨0x40C4 + 256 * l, 0, 16⟩
def LANE_CAP_CAP (l : Nat) : Fld := ⟨0x40C8 + 256 * l, 0, 32⟩
def LANE_SOCSTAT_SOC (l : Nat) : Fld := ⟨0x40CC + 256 * l, 0, 16⟩
def LANE_SOCSTAT_VALID (l : Nat) : Fld := ⟨0x40CC + 256 * l, 16, 1⟩
def LANE_SOCSTAT_DISCHG (l : Nat) : Fld := ⟨0x40CC + 256 * l, 17, 1⟩
def LANE_SOCSTAT_REST (l : Nat) : Fld := ⟨0x40CC + 256 * l, 18, 1⟩
def LANE_SOCSTAT_DISAG (l : Nat) : Fld := ⟨0x40CC + 256 * l, 19, 1⟩
def LANE_SOCSTAT_LOWRATE (l : Nat) : Fld := ⟨0x40CC + 256 * l, 20, 1⟩
def LANE_SOCSTAT_NOCAP (l : Nat) : Fld := ⟨0x40CC + 256 * l, 21, 1⟩
def LANE_SOCINT_S (l : Nat) : Fld := ⟨0x40D0 + 256 * l, 0, 32⟩
def LANE_ANCH_ASOC (l : Nat) : Fld := ⟨0x40D4 + 256 * l, 0, 16⟩
def LANE_ANCH_ASRC (l : Nat) : Fld := ⟨0x40D4 + 256 * l, 16, 2⟩
def LANE_ANCH_LEARNABLE (l : Nat) : Fld := ⟨0x40D4 + 256 * l, 18, 1⟩
def LANE_ANCH_A1VALID (l : Nat) : Fld := ⟨0x40D4 + 256 * l, 19, 1⟩
def LANE_ANCHFRM_FRAME (l : Nat) : Fld := ⟨0x40D8 + 256 * l, 0, 32⟩
def LANE_LRN_LCNT (l : Nat) : Fld := ⟨0x40DC + 256 * l, 0, 8⟩
def LANE_LRN_LSTAT (l : Nat) : Fld := ⟨0x40DC + 256 * l, 8, 4⟩
def EST_CFG_CAPTOL : Fld := ⟨0xD20, 0, 8⟩
def EST_CFG_LGAIN : Fld := ⟨0xD20, 8, 8⟩
def EST_CFG_LRNMIN : Fld := ⟨0xD20, 16, 16⟩
def EST_LRNCFG_LRNMAX : Fld := ⟨0xD24, 0, 16⟩
def EST_LRNCFG_RESTUPD : Fld := ⟨0xD24, 16, 16⟩
def EST_TBLCMD_CHK : Fld := ⟨0xD28, 0, 8⟩
def EST_TBLSTAT_VALID : Fld := ⟨0xD2C, 0, 8⟩
def EST_TBLSTAT_CRCERR : Fld := ⟨0xD2C, 8, 8⟩
def EST_TBLSTAT_ORDERR : Fld := ⟨0xD2C, 16, 8⟩
def EST_SEED_LANE : Fld := ⟨0xD30, 0, 6⟩
def EST_SEED_SOC : Fld := ⟨0xD30, 16, 16⟩
def EST_WBCFG_WBPER : Fld := ⟨0xD34, 0, 16⟩
def EST_WBCFG_WBREQ : Fld := ⟨0xD34, 16, 1⟩
def EST_WBSTAT_BUSY : Fld := ⟨0xD38, 0, 1⟩
def EST_WBSTAT_LOADED : Fld := ⟨0xD38, 1, 1⟩
def EST_WBSTAT_LSLOT : Fld := ⟨0xD38, 2, 1⟩
def EST_WBSTAT_WSLOT : Fld := ⟨0xD38, 3, 1⟩
def EST_WBSTAT_LRES : Fld := ⟨0xD38, 4, 4⟩
def EST_WBSEQ_SEQ : Fld := ⟨0xD3C, 0, 32⟩
def EST_DIRTY0_LANES : Fld := ⟨0xD40, 0, 32⟩
def EST_DIRTY1_LANES : Fld := ⟨0xD44, 0, 32⟩
def EST_ROLLBACK0_LANES : Fld := ⟨0xD48, 0, 32⟩
def EST_ROLLBACK1_LANES : Fld := ⟨0xD4C, 0, 32⟩
def EST_DISMASK0_LANES : Fld := ⟨0xD50, 0, 32⟩
def EST_DISMASK1_LANES : Fld := ⟨0xD54, 0, 32⟩
def EST_LRNMASK0_LANES : Fld := ⟨0xD58, 0, 32⟩
def EST_LRNMASK1_LANES : Fld := ⟨0xD5C, 0, 32⟩
def EST_LRNSEL_LANE : Fld := ⟨0xD60, 0, 6⟩
def EST_A1SOC_SOC : Fld := ⟨0xD64, 0, 20⟩
def EST_A1SOC_VALID : Fld := ⟨0xD64, 20, 1⟩
def EST_A1FRM_FRAME : Fld := ⟨0xD68, 0, 32⟩
def EST_CNEW_CAP : Fld := ⟨0xD6C, 0, 32⟩
def LANE_EISSTAT_RUN (l : Nat) : Fld := ⟨0x40F8 + 256 * l, 0, 1⟩
def LANE_EISSTAT_SETTLE (l : Nat) : Fld := ⟨0x40F8 + 256 * l, 1, 1⟩
def LANE_EISSTAT_RESOK (l : Nat) : Fld := ⟨0x40F8 + 256 * l, 2, 1⟩
def LANE_EISSTAT_NVAL (l : Nat) : Fld := ⟨0x40F8 + 256 * l, 8, 8⟩
def LANE_EISSTAT_FLAGS (l : Nat) : Fld := ⟨0x40F8 + 256 * l, 16, 8⟩
def LANE_EISPOS_POS (l : Nat) : Fld := ⟨0x40FC + 256 * l, 0, 24⟩
def EIS_SEL_LANE : Fld := ⟨0xE20, 0, 6⟩
def EIS_SEL_TONE : Fld := ⟨0xE20, 8, 3⟩
def EIS_CHSTAT_RUN : Fld := ⟨0xE24, 0, 1⟩
def EIS_CHSTAT_SETTLE : Fld := ⟨0xE24, 1, 1⟩
def EIS_CHSTAT_STAG : Fld := ⟨0xE24, 2, 1⟩
def EIS_CHSTAT_PTREF : Fld := ⟨0xE24, 3, 1⟩
def EIS_CHSTAT_NT : Fld := ⟨0xE24, 4, 4⟩
def EIS_CHSTAT_SIGMA : Fld := ⟨0xE24, 8, 4⟩
def EIS_CHSTAT_NVAL : Fld := ⟨0xE24, 16, 8⟩
def EIS_CHSTAT_NINV : Fld := ⟨0xE24, 24, 8⟩
def EIS_WIN_WIN : Fld := ⟨0xE28, 0, 24⟩
def EIS_WIN_FLAGS : Fld := ⟨0xE28, 24, 8⟩
def EIS_WINEND_FRAME : Fld := ⟨0xE2C, 0, 32⟩
def EIS_TONE_KS : Fld := ⟨0xE30, 0, 16⟩
def EIS_TONE_AMPL : Fld := ⟨0xE30, 16, 16⟩
def EIS_ZRE_R : Fld := ⟨0xE34, 0, 32⟩
def EIS_ZIM_X : Fld := ⟨0xE38, 0, 32⟩
def EIS_ZLRE_R : Fld := ⟨0xE3C, 0, 32⟩
def EIS_ZLIM_X : Fld := ⟨0xE40, 0, 32⟩
def EIS_IAMP_I : Fld := ⟨0xE44, 0, 32⟩
def EIS_VAMP_V : Fld := ⟨0xE48, 0, 32⟩
def EIS_DONEMASK0_LANES : Fld := ⟨0xE4C, 0, 32⟩
def EIS_DONEMASK1_LANES : Fld := ⟨0xE50, 0, 32⟩
def EIS_RESMASK0_LANES : Fld := ⟨0xE54, 0, 32⟩
def EIS_RESMASK1_LANES : Fld := ⟨0xE58, 0, 32⟩
def TLM_PER_PER : Fld := ⟨0xF20, 0, 17⟩
def TLM_CFG_RINGEN : Fld := ⟨0xF24, 0, 1⟩
def TLM_CFG_STOP : Fld := ⟨0xF24, 1, 1⟩
def TLM_CFG_LINKEN : Fld := ⟨0xF24, 2, 1⟩
def TLM_CFG_LATEMAX : Fld := ⟨0xF24, 16, 16⟩
def TLM_DEST_DEST : Fld := ⟨0xF28, 0, 18⟩
def TLM_DADDR_DADDR : Fld := ⟨0xF2C, 0, 24⟩
def TLM_CHEN0_LANES : Fld := ⟨0xF30, 0, 32⟩
def TLM_CHEN1_LANES : Fld := ⟨0xF34, 0, 32⟩
def TLM_RSTAT_RSEQ : Fld := ⟨0xF38, 0, 16⟩
def TLM_NEXTEND_FRAME : Fld := ⟨0xF3C, 0, 32⟩
def TLM_LAG_LAG : Fld := ⟨0xF40, 0, 24⟩
def TLM_WCNT_WCNT : Fld := ⟨0xF44, 0, 16⟩
def TLM_WCNT_LCNT : Fld := ⟨0xF44, 16, 16⟩
def TLM_RCNT_RCNT : Fld := ⟨0xF48, 0, 16⟩
def TLM_RFILL_FILL : Fld := ⟨0xF4C, 0, 11⟩
def TLM_CNT1_LATECNT : Fld := ⟨0xF50, 0, 16⟩
def TLM_CNT1_SKIPCNT : Fld := ⟨0xF50, 16, 16⟩
def TLM_CNT2_RINGDROP : Fld := ⟨0xF54, 0, 16⟩
def TLM_CNT2_LINKDROP : Fld := ⟨0xF54, 16, 16⟩
def TLM_CSEL_LANE : Fld := ⟨0xF58, 0, 6⟩
def TLM_CVAVG_V : Fld := ⟨0xF5C, 0, 32⟩
def TLM_CIAVG_I : Fld := ⟨0xF60, 0, 32⟩
def TLM_CPAVG_P : Fld := ⟨0xF64, 0, 32⟩
def TLM_CTEMP_TAVG : Fld := ⟨0xF68, 0, 16⟩
def TLM_CTEMP_TMAX : Fld := ⟨0xF68, 16, 16⟩
def TLM_CVPK_VMAX : Fld := ⟨0xF6C, 0, 16⟩
def TLM_CVPK_VMIN : Fld := ⟨0xF6C, 16, 16⟩
def TLM_CIPK_IMAX : Fld := ⟨0xF70, 0, 16⟩
def TLM_CIPK_IMIN : Fld := ⟨0xF70, 16, 16⟩
def TLM_CPPK_PMAX : Fld := ⟨0xF74, 0, 16⟩
def TLM_CPPK_PMIN : Fld := ⟨0xF74, 16, 16⟩
def TLM_CTPK_TMAX : Fld := ⟨0xF78, 0, 16⟩
def TLM_DITOT_I : Fld := ⟨0xF7C, 0, 32⟩
def TLM_DPTOT_P : Fld := ⟨0xF80, 0, 32⟩
def TLM_DIMAX_I : Fld := ⟨0xF84, 0, 32⟩
def TLM_DIMIN_I : Fld := ⟨0xF88, 0, 32⟩
def TLM_DPMAX_P : Fld := ⟨0xF8C, 0, 32⟩
def TLM_DPMIN_P : Fld := ⟨0xF90, 0, 32⟩
def TLM_DTMAX_T : Fld := ⟨0xF94, 0, 16⟩
def TLM_PKCLR_CHAN : Fld := ⟨0xF98, 0, 1⟩
def TLM_PKCLR_ALL : Fld := ⟨0xF98, 1, 1⟩
def TLM_PKCLR_DEV : Fld := ⟨0xF98, 2, 1⟩
def TLM_LFSEL_LANE : Fld := ⟨0xF9C, 0, 6⟩
def TLM_LFSTAT_PEND : Fld := ⟨0xFA0, 0, 1⟩
def TLM_LFSTAT_VALID : Fld := ⟨0xFA0, 1, 1⟩
def TLM_LFSTAT_LFLOST : Fld := ⟨0xFA0, 8, 8⟩
def TLM_LFSTAT_LFSEQ : Fld := ⟨0xFA0, 16, 16⟩
def TLM_LFDATA_DATA (k : Nat) : Fld := ⟨0xFA4 + 4 * k, 0, 32⟩
def TLM_LFPEND0_LANES : Fld := ⟨0xFE4, 0, 32⟩
def TLM_LFPEND1_LANES : Fld := ⟨0xFE8, 0, 32⟩
def EFU_FCTL_EN (k : Nat) : Fld := ⟨0xA20 + 0x40 * k, 0, 1⟩
def EFU_FCTL_CLR (k : Nat) : Fld := ⟨0xA20 + 0x40 * k, 1, 1⟩
def EFU_FCTL_RTRYN (k : Nat) : Fld := ⟨0xA20 + 0x40 * k, 4, 4⟩
def EFU_FCTL_TINS (k : Nat) : Fld := ⟨0xA20 + 0x40 * k, 8, 8⟩
def EFU_FCTL_TRAMP (k : Nat) : Fld := ⟨0xA20 + 0x40 * k, 16, 8⟩
def EFU_FLIM_ILIM (k : Nat) : Fld := ⟨0xA24 + 0x40 * k, 0, 10⟩
def EFU_FLIM_FT (k : Nat) : Fld := ⟨0xA24 + 0x40 * k, 10, 2⟩
def EFU_FLIM_IGATE (k : Nat) : Fld := ⟨0xA24 + 0x40 * k, 12, 2⟩
def EFU_FLIM_REVTH (k : Nat) : Fld := ⟨0xA24 + 0x40 * k, 16, 10⟩
def EFU_FSOA_ESOA (k : Nat) : Fld := ⟨0xA28 + 0x40 * k, 0, 16⟩
def EFU_FSOA_COOL (k : Nat) : Fld := ⟨0xA28 + 0x40 * k, 16, 16⟩
def EFU_FVWIN_UV (k : Nat) : Fld := ⟨0xA2C + 0x40 * k, 0, 12⟩
def EFU_FVWIN_OV (k : Nat) : Fld := ⟨0xA2C + 0x40 * k, 16, 12⟩
def EFU_FCFG_RSHE (k : Nat) : Fld := ⟨0xA30 + 0x40 * k, 0, 16⟩
def EFU_FSTAT_ST (k : Nat) : Fld := ⟨0xA34 + 0x40 * k, 0, 4⟩
def EFU_FSTAT_BLK (k : Nat) : Fld := ⟨0xA34 + 0x40 * k, 4, 1⟩
def EFU_FSTAT_PG (k : Nat) : Fld := ⟨0xA34 + 0x40 * k, 5, 1⟩
def EFU_FSTAT_LIM (k : Nat) : Fld := ⟨0xA34 + 0x40 * k, 6, 1⟩
def EFU_FSTAT_DFET (k : Nat) : Fld := ⟨0xA34 + 0x40 * k, 7, 1⟩
def EFU_FSTAT_RTRYCNT (k : Nat) : Fld := ⟨0xA34 + 0x40 * k, 8, 4⟩
def EFU_FSTAT_CAUSE (k : Nat) : Fld := ⟨0xA34 + 0x40 * k, 12, 4⟩
def EFU_FSTAT_SOALVL (k : Nat) : Fld := ⟨0xA34 + 0x40 * k, 16, 16⟩
def EFU_FI_I (k : Nat) : Fld := ⟨0xA38 + 0x40 * k, 0, 32⟩
def EFU_FV_VIN (k : Nat) : Fld := ⟨0xA3C + 0x40 * k, 0, 16⟩
def EFU_FV_VDS (k : Nat) : Fld := ⟨0xA3C + 0x40 * k, 16, 16⟩
def EFU_FP_P (k : Nat) : Fld := ⟨0xA40 + 0x40 * k, 0, 32⟩
def EFU_FEL_E (k : Nat) : Fld := ⟨0xA44 + 0x40 * k, 0, 32⟩
def EFU_FEH_E (k : Nat) : Fld := ⟨0xA48 + 0x40 * k, 0, 32⟩
def EFU_FCNT_TRIPCNT (k : Nat) : Fld := ⟨0xA4C + 0x40 * k, 0, 8⟩
def EFU_FCNT_FASTCNT (k : Nat) : Fld := ⟨0xA4C + 0x40 * k, 8, 8⟩
def EFU_FCNT_REVCNT (k : Nat) : Fld := ⟨0xA4C + 0x40 * k, 16, 8⟩
def EFU_FCNT_RETRYCNT (k : Nat) : Fld := ⟨0xA4C + 0x40 * k, 24, 8⟩
def EFU_FIPK_IPK (k : Nat) : Fld := ⟨0xA50 + 0x40 * k, 0, 16⟩
def EFU_VBUS_VB : Fld := ⟨0xAA0, 0, 16⟩
def EFU_ISUM_I : Fld := ⟨0xAA4, 0, 32⟩
def EFU_CNTCLR_CNT : Fld := ⟨0xAA8, 0, 2⟩
def EFU_CNTCLR_ENG : Fld := ⟨0xAA8, 2, 2⟩
def EFU_CPSTAT_CPOK : Fld := ⟨0xAAC, 0, 1⟩
def THM_BANDTH_TB1 : Fld := ⟨0x520, 0, 8⟩
def THM_BANDTH_TB2 : Fld := ⟨0x520, 8, 8⟩
def THM_BANDTH_TB3 : Fld := ⟨0x520, 16, 8⟩
def THM_BANDTH_TB4 : Fld := ⟨0x520, 24, 8⟩
def THM_BANDCFG_BHYS : Fld := ⟨0x524, 0, 4⟩
def THM_THRCFG_TTHR : Fld := ⟨0x528, 0, 8⟩
def THM_THRCFG_THYS : Fld := ⟨0x528, 8, 4⟩
def THM_THRCFG_MAXLVL : Fld := ⟨0x528, 12, 4⟩
def THM_THRCFG_TSTEP : Fld := ⟨0x528, 16, 8⟩
def THM_THRCFG_FLTLVL : Fld := ⟨0x528, 24, 4⟩
def THM_THRCFG_AUTOEN : Fld := ⟨0x528, 28, 1⟩
def THM_WARN_TWARN : Fld := ⟨0x52C, 0, 8⟩
def THM_MINLVL_MIN : Fld := ⟨0x530, 0, 32⟩
def THM_LEVEL_LVL : Fld := ⟨0x534, 0, 32⟩
def THM_BAND_BAND : Fld := ⟨0x538, 0, 24⟩
def THM_TMAX_T : Fld := ⟨0x53C, 0, 16⟩
def THM_TMAX_SRC : Fld := ⟨0x53C, 16, 4⟩
def THM_TEMP_T (k : Nat) : Fld := ⟨0x540 + 4 * k, 0, 16⟩
def THM_TEMP_FAULT (k : Nat) : Fld := ⟨0x540 + 4 * k, 16, 1⟩
def THM_PEAK_T : Fld := ⟨0x564, 0, 16⟩
def THM_PEAK_SRC : Fld := ⟨0x564, 16, 4⟩
def THM_TSDSTAT_LATCHED : Fld := ⟨0x568, 0, 1⟩
def THM_TSDSTAT_SRC : Fld := ⟨0x568, 1, 4⟩
def THM_PSEL_BANK : Fld := ⟨0x56C, 0, 3⟩
def THM_PCNT_COUNT : Fld := ⟨0x570, 0, 32⟩
def THM_CLR_PKCLR : Fld := ⟨0x574, 0, 1⟩
def CORE_BOOTCFG_REBOOT : Fld := ⟨0x1620, 0, 1⟩
def CORE_BOOTSTAT_STAGE : Fld := ⟨0x1624, 0, 4⟩
def CORE_BOOTSTAT_SRC : Fld := ⟨0x1624, 4, 2⟩
def CORE_BOOTSTAT_ERR : Fld := ⟨0x1624, 8, 4⟩
def CORE_BOOTSTAT_BOOTCNT : Fld := ⟨0x1624, 16, 16⟩
def CORE_BOOTCMD_GO : Fld := ⟨0x1628, 0, 1⟩
def CORE_IMGCRC_CRC : Fld := ⟨0x162C, 0, 32⟩
def CORE_IRQEN_PAGES (k : Nat) : Fld := ⟨0x1630 + 4 * k, 0, 32⟩
def CORE_MSIP_MSIP : Fld := ⟨0x163C, 0, 1⟩
def CORE_MTIMEL_T : Fld := ⟨0x1640, 0, 32⟩
def CORE_MTIMEH_T : Fld := ⟨0x1644, 0, 32⟩
def CORE_MTIMECMPL_T : Fld := ⟨0x1648, 0, 32⟩
def CORE_MTIMECMPH_T : Fld := ⟨0x164C, 0, 32⟩
def CORE_C2H_C2H : Fld := ⟨0x1650, 0, 1⟩
def CORE_MBOX_DATA (k : Nat) : Fld := ⟨0x1654 + 4 * k, 0, 32⟩
def CORE_GPIO_WDO : Fld := ⟨0x1664, 0, 1⟩
def CORE_PCSAMPLE_PC : Fld := ⟨0x1668, 0, 32⟩
def CORE_TRAPCAUSE_MCAUSE : Fld := ⟨0x166C, 0, 32⟩
def CORE_TRAPPC_MEPC : Fld := ⟨0x1670, 0, 32⟩
def WDG_WOPEN_WOPEN : Fld := ⟨0x720, 0, 20⟩
def WDG_WCLOSE_WCLOSE : Fld := ⟨0x724, 0, 20⟩
def WDG_TASKEN_TASKEN : Fld := ⟨0x728, 0, 16⟩
def WDG_CTL_LOCK : Fld := ⟨0x72C, 0, 1⟩
def WDG_CTL_T520 : Fld := ⟨0x72C, 1, 1⟩
def WDG_CTL_FIRSTTO : Fld := ⟨0x72C, 8, 8⟩
def WDG_CHECKIN_TASK : Fld := ⟨0x730, 0, 16⟩
def WDG_LEDGER_LEDGER : Fld := ⟨0x734, 0, 16⟩
def WDG_LEDGER_MISSING : Fld := ⟨0x734, 16, 16⟩
def WDG_COUNT_C : Fld := ⟨0x738, 0, 32⟩
def WDG_CNT_MISSCNT : Fld := ⟨0x73C, 0, 8⟩
def WDG_CNT_DBLCNT : Fld := ⟨0x73C, 8, 8⟩
def WDG_CNT_FRZCNT : Fld := ⟨0x73C, 16, 8⟩
def WDG_CNT_EXPCNT : Fld := ⟨0x73C, 24, 8⟩
def WDG_LASTSVCL_T : Fld := ⟨0x740, 0, 32⟩
def WDG_LASTSVCH_T : Fld := ⟨0x744, 0, 32⟩
def WDG_CAPSTAT_VALID : Fld := ⟨0x748, 0, 1⟩
def WDG_CAPSTAT_CAUSE : Fld := ⟨0x748, 1, 2⟩
def WDG_CAPSTAT_NOSVC : Fld := ⟨0x748, 3, 1⟩
def WDG_CAPSTAT_LOST : Fld := ⟨0x748, 8, 8⟩
def WDG_CAPSTAT_LEDGER : Fld := ⟨0x748, 16, 16⟩
def WDG_CAPPC_PC : Fld := ⟨0x74C, 0, 32⟩
def WDG_CAPPTL_T : Fld := ⟨0x750, 0, 32⟩
def WDG_CAPPTH_T : Fld := ⟨0x754, 0, 32⟩
def WDG_CAPFRM_FRAME : Fld := ⟨0x758, 0, 32⟩
def DBG_STAT_EN : Fld := ⟨0x1720, 0, 1⟩
def DBG_STAT_HALTED : Fld := ⟨0x1720, 1, 1⟩
def DBG_STAT_UNLOCKED : Fld := ⟨0x1720, 2, 1⟩
def DBG_NONCEL_N : Fld := ⟨0x1724, 0, 32⟩
def DBG_NONCEH_N : Fld := ⟨0x1728, 0, 32⟩
def DBG_RESPL_R : Fld := ⟨0x172C, 0, 32⟩
def DBG_RESPH_R : Fld := ⟨0x1730, 0, 32⟩
def DBG_CMD_NONCE : Fld := ⟨0x1734, 0, 1⟩
def DBG_CMD_RELOCK : Fld := ⟨0x1734, 1, 1⟩
def REC_CFG_STTYPE : Fld := ⟨0x820, 1, 1⟩
def REC_CFG_SIZE : Fld := ⟨0x820, 2, 3⟩
def REC_CFG_RSDIV : Fld := ⟨0x820, 8, 3⟩
def REC_CFG_FLPER : Fld := ⟨0x820, 16, 8⟩
def REC_CFG_HDRPER : Fld := ⟨0x820, 24, 8⟩
def REC_RECEN0_PAGES : Fld := ⟨0x824, 0, 32⟩
def REC_RECEN1_PAGES : Fld := ⟨0x828, 0, 32⟩
def REC_RECEN2_PAGES : Fld := ⟨0x82C, 0, 32⟩
def REC_LANEBITS_BITS : Fld := ⟨0x830, 0, 16⟩
def REC_WSEQ_SEQ : Fld := ⟨0x834, 0, 32⟩
def REC_FSEQ_SEQ : Fld := ⟨0x838, 0, 32⟩
def REC_CLRSEQ_SEQ : Fld := ⟨0x83C, 0, 32⟩
def REC_OPTIME_S : Fld := ⟨0x840, 0, 32⟩
def REC_PCYC_PCYC : Fld := ⟨0x844, 0, 24⟩
def REC_PCYC_OPFRAC : Fld := ⟨0x844, 24, 8⟩
def REC_RSTAT_FILL : Fld := ⟨0x848, 0, 9⟩
def REC_RSTAT_FLUSHING : Fld := ⟨0x848, 9, 1⟩
def REC_RSTAT_STOREOK : Fld := ⟨0x848, 10, 1⟩
def REC_RSTAT_ABSENT : Fld := ⟨0x848, 11, 1⟩
def REC_RSTAT_OVERWRITE : Fld := ⟨0x848, 12, 1⟩
def REC_RSTAT_LOST : Fld := ⟨0x848, 16, 16⟩
def REC_FLCMD_FLUSH : Fld := ⟨0x84C, 0, 1⟩
def REC_FLCMD_HDR : Fld := ⟨0x84C, 1, 1⟩
def REC_NLOG_NLOG : Fld := ⟨0x850, 0, 24⟩
def REC_SADDR_ADDR : Fld := ⟨0x854, 0, 24⟩
def REC_SCMD_READ : Fld := ⟨0x858, 0, 1⟩
def REC_SCMD_WRITE : Fld := ⟨0x858, 1, 1⟩
def REC_SSTAT_BUSY : Fld := ⟨0x85C, 0, 1⟩
def REC_SSTAT_DONE : Fld := ⟨0x85C, 1, 1⟩
def REC_SSTAT_ERR : Fld := ⟨0x85C, 2, 1⟩
def REC_SBUF_DATA (k : Nat) : Fld := ⟨0x860 + 4 * k, 0, 32⟩
def REC_NONCEL_N : Fld := ⟨0x8A0, 0, 32⟩
def REC_NONCEH_N : Fld := ⟨0x8A4, 0, 32⟩
def REC_RESPL_R : Fld := ⟨0x8A8, 0, 32⟩
def REC_RESPH_R : Fld := ⟨0x8AC, 0, 32⟩
def REC_CLRCMD_NONCE : Fld := ⟨0x8B0, 0, 1⟩
def REC_CLRSTAT_STATE : Fld := ⟨0x8B4, 0, 3⟩
def REC_CLRSTAT_FAIL : Fld := ⟨0x8B4, 3, 3⟩
def REC_CLRSTAT_OWNER : Fld := ⟨0x8B4, 8, 3⟩
def REC_ERRCNT_RDBKCNT : Fld := ⟨0x8B8, 0, 8⟩
def REC_ERRCNT_STERRCNT : Fld := ⟨0x8B8, 8, 8⟩
def REC_ERRCNT_CLRFCNT : Fld := ⟨0x8B8, 16, 8⟩
def OTP_RDADDR_WORD : Fld := ⟨0x620, 0, 9⟩
def OTP_RDADDR_MODE : Fld := ⟨0x620, 16, 2⟩
def OTP_RDDATA_DATA : Fld := ⟨0x624, 0, 32⟩
def OTP_RDSTAT_BUSY : Fld := ⟨0x628, 0, 1⟩
def OTP_RDSTAT_LOCKED : Fld := ⟨0x628, 1, 1⟩
def OTP_PGMADDR_WORD : Fld := ⟨0x62C, 0, 9⟩
def OTP_PGMDATA_DATA : Fld := ⟨0x630, 0, 32⟩
def OTP_PGMCMD_OP : Fld := ⟨0x634, 0, 2⟩
def OTP_PGMCMD_REGION : Fld := ⟨0x634, 4, 3⟩
def OTP_PGMCMD_TARGET : Fld := ⟨0x634, 8, 3⟩
def OTP_PGMCMD_KEY : Fld := ⟨0x634, 24, 8⟩
def OTP_PGMSTAT_BUSY : Fld := ⟨0x638, 0, 1⟩
def OTP_PGMSTAT_RESULT : Fld := ⟨0x638, 1, 3⟩
def OTP_PGMSTAT_REASON : Fld := ⟨0x638, 4, 4⟩
def OTP_PGMSTAT_WORD : Fld := ⟨0x638, 8, 9⟩
def OTP_PGMSTAT_BIT : Fld := ⟨0x638, 17, 5⟩
def OTP_REGSTAT_STATE : Fld := ⟨0x63C, 0, 12⟩
def OTP_REGSTAT_RLOCK : Fld := ⟨0x63C, 12, 6⟩
def OTP_REGSTAT_MARG : Fld := ⟨0x63C, 18, 6⟩
def OTP_LIFE_STATE : Fld := ⟨0x640, 0, 3⟩
def OTP_LIFE_PARTIAL : Fld := ⟨0x640, 3, 1⟩
def OTP_LIFE_FROZEN : Fld := ⟨0x640, 4, 1⟩
def OTP_LIFE_FUSED : Fld := ⟨0x640, 5, 3⟩
def OTP_MARG_COUNT : Fld := ⟨0x644, 0, 10⟩
def OTP_MARG_FIRST : Fld := ⟨0x644, 16, 9⟩
def OTP_MARG_VALID : Fld := ⟨0x644, 31, 1⟩
def OTP_DIGSEL_REGION : Fld := ⟨0x648, 0, 3⟩
def OTP_DIGL_D : Fld := ⟨0x64C, 0, 32⟩
def OTP_DIGH_D : Fld := ⟨0x650, 0, 32⟩
def RTC_CFG_XCL : Fld := ⟨0x920, 0, 2⟩
def RTC_CFG_ALMWK : Fld := ⟨0x920, 4, 1⟩
def RTC_CFG_PERWK : Fld := ⟨0x920, 5, 1⟩
def RTC_CALA_SS : Fld := ⟨0x924, 0, 15⟩
def RTC_CALA_SEC : Fld := ⟨0x924, 15, 6⟩
def RTC_CALA_MIN : Fld := ⟨0x924, 21, 6⟩
def RTC_CALB_HOUR : Fld := ⟨0x928, 0, 5⟩
def RTC_CALB_DAY : Fld := ⟨0x928, 5, 5⟩
def RTC_CALB_MONTH : Fld := ⟨0x928, 10, 4⟩
def RTC_CALB_YEAR : Fld := ⟨0x928, 14, 7⟩
def RTC_CALB_WDAY : Fld := ⟨0x928, 21, 3⟩
def RTC_CMD_LOAD : Fld := ⟨0x934, 0, 1⟩
def RTC_CMD_SHIFT : Fld := ⟨0x934, 1, 1⟩
def RTC_CMD_SNAP : Fld := ⟨0x934, 2, 1⟩
def RTC_CMD_ARM : Fld := ⟨0x934, 3, 1⟩
def RTC_CMD_POP : Fld := ⟨0x934, 8, 4⟩
def RTC_SHIFT_TICKS : Fld := ⟨0x938, 0, 16⟩
def RTC_TRIM_CALP : Fld := ⟨0x93C, 0, 10⟩
def RTC_WAKE_WKCNT : Fld := ⟨0x948, 0, 16⟩
def RTC_WAKE_WKUNIT : Fld := ⟨0x948, 16, 1⟩
def RTC_PLSTAT_TLOST : Fld := ⟨0x94C, 0, 1⟩
def RTC_PLSTAT_OSCSTOP : Fld := ⟨0x94C, 1, 1⟩
def RTC_PLSTAT_ALMF : Fld := ⟨0x94C, 2, 1⟩
def RTC_PLSTAT_ALMJ : Fld := ⟨0x94C, 3, 1⟩
def RTC_PLSTAT_WKF : Fld := ⟨0x94C, 4, 1⟩
def RTC_PLSTAT_EVF : Fld := ⟨0x94C, 5, 1⟩
def RTC_PLSTAT_ARMED : Fld := ⟨0x94C, 6, 1⟩
def RTC_EVCFG_EDGE : Fld := ⟨0x950, 0, 8⟩
def RTC_EVCFG_FILT : Fld := ⟨0x950, 8, 4⟩
def RTC_EVSTAT_CNT : Fld := ⟨0x954, 0, 16⟩
def RTC_EVSTAT_OVF : Fld := ⟨0x954, 16, 4⟩
def RTC_EVSEL_IN : Fld := ⟨0x958, 0, 2⟩
def RTC_EVTSA_EDGE : Fld := ⟨0x95C, 27, 1⟩
def RTC_SNAPPTL_T : Fld := ⟨0x96C, 0, 32⟩
def RTC_SNAPPTH_T : Fld := ⟨0x970, 0, 32⟩
def RTC_PWR_BAKCNT : Fld := ⟨0x974, 0, 8⟩
def RTC_BKP_DATA (k : Nat) : Fld := ⟨0x980 + 4 * k, 0, 32⟩
def ULK_CFG_TXAMP (x : Nat) : Fld := ⟨0x1120 + 256 * x, 0, 2⟩
def ULK_CFG_TXPRE (x : Nat) : Fld := ⟨0x1120 + 256 * x, 2, 2⟩
def ULK_CFG_RXEQ (x : Nat) : Fld := ⟨0x1120 + 256 * x, 4, 3⟩
def ULK_CFG_WRAPEN (x : Nat) : Fld := ⟨0x1120 + 256 * x, 8, 1⟩
def ULK_CFG_NELB (x : Nat) : Fld := ⟨0x1120 + 256 * x, 9, 1⟩
def ULK_TIMING_ACKN (x : Nat) : Fld := ⟨0x1124 + 256 * x, 0, 8⟩
def ULK_TIMING_ACKT (x : Nat) : Fld := ⟨0x1124 + 256 * x, 8, 8⟩
def ULK_TIMING_REPLAYTO (x : Nat) : Fld := ⟨0x1124 + 256 * x, 16, 8⟩
def ULK_TIMING_MAXREPLAY (x : Nat) : Fld := ⟨0x1124 + 256 * x, 24, 4⟩
def ULK_STATE_ST (x : Nat) : Fld := ⟨0x1128 + 256 * x, 0, 3⟩
def ULK_STATE_SIGDET (x : Nat) : Fld := ⟨0x1128 + 256 * x, 3, 1⟩
def ULK_STATE_RXINV (x : Nat) : Fld := ⟨0x1128 + 256 * x, 4, 1⟩
def ULK_STATE_WRAP (x : Nat) : Fld := ⟨0x1128 + 256 * x, 5, 1⟩
def ULK_STATE_TXHOLD (x : Nat) : Fld := ⟨0x1128 + 256 * x, 6, 1⟩
def ULK_STATE_FRESH (x : Nat) : Fld := ⟨0x1128 + 256 * x, 7, 1⟩
def ULK_STATE_CREDIT (x : Nat) : Fld := ⟨0x1128 + 256 * x, 8, 8⟩
def ULK_STATE_UNACK (x : Nat) : Fld := ⟨0x1128 + 256 * x, 16, 8⟩
def ULK_STATE_QFILL (x : Nat) : Fld := ⟨0x1128 + 256 * x, 24, 8⟩
def ULK_PARTNER_ADDR (x : Nat) : Fld := ⟨0x112C + 256 * x, 0, 18⟩
def ULK_PARTNER_PORT (x : Nat) : Fld := ⟨0x112C + 256 * x, 18, 2⟩
def ULK_PARTNER_VALID (x : Nat) : Fld := ⟨0x112C + 256 * x, 20, 1⟩
def ULK_PARTNER_MISWIRE (x : Nat) : Fld := ⟨0x112C + 256 * x, 21, 1⟩
def ULK_PARTNER_RXVER (x : Nat) : Fld := ⟨0x112C + 256 * x, 22, 8⟩
def ULK_PARTNER_VERERR (x : Nat) : Fld := ⟨0x112C + 256 * x, 30, 1⟩
def ULK_SEQ_NEXTTX (x : Nat) : Fld := ⟨0x1130 + 256 * x, 0, 8⟩
def ULK_SEQ_ACKED (x : Nat) : Fld := ⟨0x1130 + 256 * x, 8, 8⟩
def ULK_SEQ_EXPECT (x : Nat) : Fld := ⟨0x1130 + 256 * x, 16, 8⟩
def ULK_ERRCNT_CVCNT (x : Nat) : Fld := ⟨0x1134 + 256 * x, 0, 8⟩
def ULK_ERRCNT_DISPCNT (x : Nat) : Fld := ⟨0x1134 + 256 * x, 8, 8⟩
def ULK_ERRCNT_CRCCNT (x : Nat) : Fld := ⟨0x1134 + 256 * x, 16, 8⟩
def ULK_ERRCNT_LCFCNT (x : Nat) : Fld := ⟨0x1134 + 256 * x, 24, 8⟩
def ULK_NAKCNT_NAKTX (x : Nat) : Fld := ⟨0x1138 + 256 * x, 0, 8⟩
def ULK_NAKCNT_NAKRX (x : Nat) : Fld := ⟨0x1138 + 256 * x, 8, 8⟩
def ULK_NAKCNT_REPLAYS (x : Nat) : Fld := ⟨0x1138 + 256 * x, 16, 8⟩
def ULK_NAKCNT_OVRCNT (x : Nat) : Fld := ⟨0x1138 + 256 * x, 24, 8⟩
def ULK_LNKCNT_RETRAINS (x : Nat) : Fld := ⟨0x113C + 256 * x, 0, 8⟩
def ULK_LNKCNT_DOWNCNT (x : Nat) : Fld := ⟨0x113C + 256 * x, 8, 8⟩
def ULK_LNKCNT_TOCNT (x : Nat) : Fld := ⟨0x113C + 256 * x, 16, 8⟩
def ULK_LNKCNT_LOOPCNT (x : Nat) : Fld := ⟨0x113C + 256 * x, 24, 8⟩
def ULK_TXPKT_COUNT (x : Nat) : Fld := ⟨0x1140 + 256 * x, 0, 32⟩
def ULK_RXPKT_COUNT (x : Nat) : Fld := ⟨0x1144 + 256 * x, 0, 32⟩
def ULK_CNTCLR_CLR (x : Nat) : Fld := ⟨0x1148 + 256 * x, 0, 1⟩
def PTM_CFG_MASTER : Fld := ⟨0x1520, 0, 1⟩
def PTM_CFG_AUTOSTEP : Fld := ⟨0x1520, 1, 1⟩
def PTM_CFG_SYNCPER : Fld := ⟨0x1520, 8, 8⟩
def PTM_CFG_SYNCLOSS : Fld := ⟨0x1520, 16, 4⟩
def PTM_CFG_KPS : Fld := ⟨0x1520, 20, 4⟩
def PTM_CFG_KIS : Fld := ⟨0x1520, 24, 4⟩
def PTM_LIM_LOCKTH : Fld := ⟨0x1524, 0, 16⟩
def PTM_LIM_SLEWMAX : Fld := ⟨0x1524, 16, 16⟩
def PTM_CMD_STEP : Fld := ⟨0x1528, 0, 1⟩
def PTM_CMD_ACQ : Fld := ⟨0x1528, 1, 1⟩
def PTM_CMD_SETT : Fld := ⟨0x1528, 2, 1⟩
def PTM_STAT_ST : Fld := ⟨0x152C, 0, 3⟩
def PTM_STAT_PPORT : Fld := ⟨0x152C, 3, 2⟩
def PTM_STAT_PVALID : Fld := ⟨0x152C, 5, 1⟩
def PTM_STAT_HOPS : Fld := ⟨0x152C, 8, 8⟩
def PTM_PTIMEL_T : Fld := ⟨0x1530, 0, 32⟩
def PTM_PTIMEH_T : Fld := ⟨0x1534, 0, 32⟩
def PTM_OFFSET_THETA : Fld := ⟨0x1538, 0, 32⟩
def PTM_DELAY_D : Fld := ⟨0x153C, 0, 32⟩
def PTM_FREQ_F : Fld := ⟨0x1540, 0, 16⟩
def PTM_STEPK_K : Fld := ⟨0x1544, 0, 32⟩
def PTM_ASYM_ASYM (k : Nat) : Fld := ⟨0x1548 + 4 * k, 0, 16⟩
def PTM_PTSETL_T : Fld := ⟨0x1558, 0, 32⟩
def PTM_PTSETH_T : Fld := ⟨0x155C, 0, 32⟩
def PTM_CNT_JUMPS : Fld := ⟨0x1560, 0, 8⟩
def PTM_CNT_LOSTCNT : Fld := ⟨0x1560, 8, 8⟩
def PTM_CNT_BADSYNC : Fld := ⟨0x1560, 16, 8⟩
def PTM_CNT_LATECNT : Fld := ⟨0x1560, 24, 8⟩
def PTM_BARQ_PEND : Fld := ⟨0x1564, 0, 5⟩
def PTM_BARQ_LATEF : Fld := ⟨0x1564, 16, 16⟩
def PTM_BRGRP_BGRP : Fld := ⟨0x1568, 0, 16⟩
def PTM_BRGRP_SCOPE : Fld := ⟨0x1568, 16, 2⟩
def PTM_BRTL_T : Fld := ⟨0x156C, 0, 32⟩
def PTM_BRTH_T : Fld := ⟨0x1570, 0, 32⟩
def PTM_BRCMD_SEND : Fld := ⟨0x1574, 0, 1⟩
def PTM_LEAD_LEAD : Fld := ⟨0x1578, 0, 24⟩
def PTM_SCHSEL_SCH : Fld := ⟨0x157C, 0, 3⟩
def PTM_SCHCFG_BGRP : Fld := ⟨0x1580, 0, 16⟩
def PTM_SCHCFG_SCOPE : Fld := ⟨0x1580, 16, 2⟩
def PTM_SCHCFG_EN : Fld := ⟨0x1580, 18, 1⟩
def PTM_SCHT0L_T : Fld := ⟨0x1584, 0, 32⟩
def PTM_SCHT0H_T : Fld := ⟨0x1588, 0, 32⟩
def PTM_SCHPER_PER : Fld := ⟨0x158C, 0, 24⟩
def PTM_SCHCNT_COUNT : Fld := ⟨0x1590, 0, 16⟩
def PTM_SCHCNT_DONE : Fld := ⟨0x1590, 16, 16⟩
def PTM_LASTBAR_BGRP : Fld := ⟨0x1594, 0, 16⟩
def PTM_LASTBARF_FRAME : Fld := ⟨0x1598, 0, 32⟩
def RTC_SETA_ALL : Fld := ⟨0x92C, 0, 32⟩
def RTC_SETB_ALL : Fld := ⟨0x930, 0, 32⟩
def RTC_ALMA_ALL : Fld := ⟨0x940, 0, 32⟩
def RTC_ALMB_ALL : Fld := ⟨0x944, 0, 32⟩
def RTC_EVTSA_ALL : Fld := ⟨0x95C, 0, 32⟩
def RTC_EVTSB_ALL : Fld := ⟨0x960, 0, 32⟩
def RTC_SNAPA_ALL : Fld := ⟨0x964, 0, 32⟩
def RTC_SNAPB_ALL : Fld := ⟨0x968, 0, 32⟩

end Sys2Proof.Machine
end

