-- ==== Sys2Proof/Machine/RegTable.lean ====
section
/-!
DEFINITION. Sys2Proof/Machine/RegTable.lean: every register of the register maps, as rows.

One row per register that a map of spec/ gives: its offset in the page, the bits each access type owns
(R108), and its reset value.  Bits that no mask names read their reset value and take no write: reserved
bits and RO fields.  A WO or W1S field stands in `act`: a write acts and leaves nothing to read.
Reset values that a row cannot hold (per lane, per port, straps, OTP) are added by `resetWord`
or written by the release from reset.
-/

namespace Sys2Proof.Machine

/-- One register of a page map (R108): masks of its RW, RWS, W1C and acting (WO, W1S) bits, and its reset value. -/
structure RegRow where
  off : Nat
  rw : Nat
  rws : Nat
  w1c : Nat
  act : Nat
  rst : Nat
  deriving DecidableEq, Repr

/-- Registers of the SYS page, part 1: PCAP to FLTEN (R131 of 05_register_model_and_host_port.md). -/
def rowsSYSA : List RegRow := [
  ⟨0x4, 0, 0, 0, 0, 0⟩,
  ⟨0x8, 0x2, 0, 0, 0x10, 0x1⟩,
  ⟨0x10, 0, 0, 0xFFFF, 0, 0⟩,
  ⟨0x14, 0xFFFFFFFF, 0, 0, 0, 0⟩,
  ⟨0x20, 0, 0, 0, 0, 0x864⟩,
  ⟨0x24, 0, 0, 0, 0, 0⟩,
  ⟨0x28, 0x3, 0, 0, 0, 0x11⟩,
  ⟨0x2C, 0x7FF, 0, 0, 0, 0⟩,
  ⟨0x30, 0, 0, 0x7FF, 0, 0⟩,
  ⟨0x34, 0, 0, 0, 0xFFFFFFFF, 0⟩,
  ⟨0x38, 0xFFFFFFFF, 0, 0, 0, 0⟩,
  ⟨0x3C, 0xFFFFFFFF, 0, 0, 0, 0⟩,
  ⟨0x40, 0, 0, 0, 0x1FF, 0⟩,
  ⟨0x44, 0, 0, 0, 0, 0⟩,
  ⟨0x48, 0, 0, 0, 0, 0⟩,
  ⟨0x4C, 0, 0, 0, 0, 0⟩,
  ⟨0x50, 0, 0, 0, 0, 0⟩,
  ⟨0x54, 0, 0, 0, 0, 0⟩,
  ⟨0x58, 0, 0, 0, 0, 0⟩,
  ⟨0x5C, 0, 0, 0, 0, 0⟩,
  ⟨0x60, 0, 0, 0, 0, 0⟩,
  ⟨0x64, 0, 0, 0, 0, 0⟩,
  ⟨0x68, 0x1, 0, 0, 0, 0⟩,
  ⟨0x6C, 0xFF, 0, 0, 0, 0xFF⟩]

/-- Registers of the SYS page, part 2: FLTSRC to SCRATCH (R131 of 05_register_model_and_host_port.md). -/
def rowsSYSB : List RegRow := [
  ⟨0x70, 0, 0, 0xFF, 0, 0⟩,
  ⟨0x74, 0, 0, 0, 0, 0⟩,
  ⟨0x78, 0xFFFFFFFF, 0, 0, 0, 0⟩]

/-- All registers of the SYS page. -/
def rowsSYS : List RegRow := rowsSYSA ++ rowsSYSB

/-- Registers of the CLK page: PCAP to HOLDTIME (R96 of 04_clocks_resets_modes.md). -/
def rowsCLK : List RegRow := [
  ⟨0x4, 0, 0, 0, 0, 0⟩,
  ⟨0x8, 0x2, 0, 0, 0x10, 0x1⟩,
  ⟨0x10, 0, 0, 0xFFFF, 0, 0⟩,
  ⟨0x14, 0xFFFFFFFF, 0, 0, 0, 0⟩,
  ⟨0x20, 0xFFFF, 0, 0, 0, 0xA⟩,
  ⟨0x24, 0, 0, 0, 0, 0⟩,
  ⟨0x28, 0, 0, 0, 0x1, 0⟩,
  ⟨0x2C, 0, 0, 0, 0, 0⟩,
  ⟨0x30, 0, 0, 0, 0, 0⟩]

/-- Registers of the RST page: PCAP to LAST (R98 of 04_clocks_resets_modes.md). -/
def rowsRST : List RegRow := [
  ⟨0x4, 0, 0, 0, 0, 0⟩,
  ⟨0x8, 0x2, 0, 0, 0x10, 0x1⟩,
  ⟨0x10, 0, 0, 0xFFFF, 0, 0⟩,
  ⟨0x14, 0xFFFFFFFF, 0, 0, 0, 0⟩,
  ⟨0x20, 0, 0, 0, 0xFF000077, 0⟩,
  ⟨0x24, 0xFFFFFFFF, 0, 0, 0, 0⟩,
  ⟨0x28, 0xFFFFFFFF, 0, 0, 0, 0⟩,
  ⟨0x2C, 0, 0, 0x3FF, 0, 0⟩,
  ⟨0x30, 0, 0, 0, 0, 0⟩]

/-- Registers of the PSQ page: PCAP to HKSTAT (R69 of 03_supplies_sequencing_supervision.md). -/
def rowsPSQ : List RegRow := [
  ⟨0x4, 0, 0, 0, 0, 0x8⟩,
  ⟨0x8, 0x2, 0, 0, 0x10, 0x1⟩,
  ⟨0x10, 0, 0, 0xFFFF, 0, 0⟩,
  ⟨0x14, 0xFFFFFFFF, 0, 0, 0, 0⟩,
  ⟨0x20, 0, 0, 0, 0x3, 0⟩,
  ⟨0x24, 0, 0, 0, 0, 0x3⟩,
  ⟨0x28, 0xFFFFFFF, 0, 0, 0, 0⟩,
  ⟨0x2C, 0xFF, 0, 0, 0, 0xA⟩,
  ⟨0x30, 0x1FFFFFF, 0, 0, 0, 0xA0A32⟩,
  ⟨0x34, 0x1FFFFFF, 0, 0, 0, 0xA0A32⟩,
  ⟨0x38, 0x1FFFFFF, 0, 0, 0, 0xA0A32⟩,
  ⟨0x3C, 0x1FFFFFF, 0, 0, 0, 0xA0A32⟩,
  ⟨0x40, 0x1FFFFFF, 0, 0, 0, 0xA0A32⟩,
  ⟨0x44, 0x1FFFFFF, 0, 0, 0, 0xA0A32⟩,
  ⟨0x48, 0x1FFFFFF, 0, 0, 0, 0xA0A32⟩,
  ⟨0x4C, 0x1FFFFFF, 0, 0, 0, 0xA0A32⟩,
  ⟨0x50, 0, 0, 0, 0, 0⟩,
  ⟨0x54, 0, 0, 0, 0, 0⟩]

/-- Registers of the SUP page, part 1: PCAP to RAILTIM3 (R71 of 03_supplies_sequencing_supervision.md). -/
def rowsSUPA : List RegRow := [
  ⟨0x4, 0, 0, 0, 0, 0x10⟩,
  ⟨0x8, 0x2, 0, 0, 0x10, 0x1⟩,
  ⟨0x10, 0, 0, 0xFFFF, 0, 0⟩,
  ⟨0x14, 0xFFFFFFFF, 0, 0, 0, 0⟩,
  ⟨0x20, 0xBFFFFFFF, 0, 0, 0, 0x82B9A866⟩,
  ⟨0x24, 0xBFFFFFFF, 0, 0, 0, 0x82BC379A⟩,
  ⟨0x28, 0xF000000, 0, 0, 0, 0xA2AC19BA⟩,
  ⟨0x2C, 0xF000000, 0, 0, 0, 0xA2B17A08⟩,
  ⟨0x30, 0xF000000, 0, 0, 0, 0xA2C19AF2⟩,
  ⟨0x34, 0xF000000, 0, 0, 0, 0xA286679A⟩,
  ⟨0x38, 0xF000000, 0, 0, 0, 0xA281074C⟩,
  ⟨0x3C, 0x8F000000, 0, 0, 0, 0x8286679A⟩,
  ⟨0x40, 0xBFFFFFFF, 0, 0, 0, 0x2FFF000⟩,
  ⟨0x44, 0xBFFFFFFF, 0, 0, 0, 0x2FFF000⟩,
  ⟨0x48, 0xBFFFFFFF, 0, 0, 0, 0x2FFF000⟩,
  ⟨0x4C, 0xBFFFFFFF, 0, 0, 0, 0x2FFF000⟩,
  ⟨0x50, 0xBFFFFFFF, 0, 0, 0, 0x2FFF000⟩,
  ⟨0x54, 0xBFFFFFFF, 0, 0, 0, 0x2FFF000⟩,
  ⟨0x58, 0xBFFFFFFF, 0, 0, 0, 0x2FFF000⟩,
  ⟨0x5C, 0xBFFFFFFF, 0, 0, 0, 0x2FFF000⟩,
  ⟨0x60, 0xFFFF, 0, 0, 0, 0x10⟩,
  ⟨0x64, 0xFFFF, 0, 0, 0, 0x10⟩,
  ⟨0x68, 0xFFFF, 0, 0, 0, 0x10⟩,
  ⟨0x6C, 0xFFFF, 0, 0, 0, 0x10⟩]

/-- Registers of the SUP page, part 2: RAILTIM4 to RAILCNT11 (R71 of 03_supplies_sequencing_supervision.md). -/
def rowsSUPB : List RegRow := [
  ⟨0x70, 0xFFFF, 0, 0, 0, 0x10⟩,
  ⟨0x74, 0xFFFF, 0, 0, 0, 0x10⟩,
  ⟨0x78, 0xFFFF, 0, 0, 0, 0x10⟩,
  ⟨0x7C, 0xFFFF, 0, 0, 0, 0x10⟩,
  ⟨0x80, 0xFFFF, 0, 0, 0, 0x10⟩,
  ⟨0x84, 0xFFFF, 0, 0, 0, 0x10⟩,
  ⟨0x88, 0xFFFF, 0, 0, 0, 0x10⟩,
  ⟨0x8C, 0xFFFF, 0, 0, 0, 0x10⟩,
  ⟨0x90, 0xFFFF, 0, 0, 0, 0x10⟩,
  ⟨0x94, 0xFFFF, 0, 0, 0, 0x10⟩,
  ⟨0x98, 0xFFFF, 0, 0, 0, 0x10⟩,
  ⟨0x9C, 0xFFFF, 0, 0, 0, 0x10⟩,
  ⟨0xA0, 0, 0, 0, 0, 0⟩,
  ⟨0xA4, 0, 0, 0, 0, 0⟩,
  ⟨0xA8, 0, 0, 0, 0, 0⟩,
  ⟨0xAC, 0, 0, 0, 0, 0⟩,
  ⟨0xB0, 0, 0, 0, 0, 0⟩,
  ⟨0xB4, 0, 0, 0, 0, 0⟩,
  ⟨0xB8, 0, 0, 0, 0, 0⟩,
  ⟨0xBC, 0, 0, 0, 0, 0⟩,
  ⟨0xC0, 0, 0, 0, 0, 0⟩,
  ⟨0xC4, 0, 0, 0, 0, 0⟩,
  ⟨0xC8, 0, 0, 0, 0, 0⟩,
  ⟨0xCC, 0, 0, 0, 0, 0⟩]

/-- Registers of the SUP page, part 3: RAILCNT12 to HYS (R71 of 03_supplies_sequencing_supervision.md). -/
def rowsSUPC : List RegRow := [
  ⟨0xD0, 0, 0, 0, 0, 0⟩,
  ⟨0xD4, 0, 0, 0, 0, 0⟩,
  ⟨0xD8, 0, 0, 0, 0, 0⟩,
  ⟨0xDC, 0, 0, 0, 0, 0⟩,
  ⟨0xE0, 0, 0, 0, 0, 0⟩,
  ⟨0xE4, 0, 0, 0xFFFFFFFF, 0, 0⟩,
  ⟨0xE8, 0, 0, 0xFFFF, 0, 0⟩,
  ⟨0xEC, 0, 0, 0, 0xFFFF, 0⟩,
  ⟨0xF0, 0xF, 0, 0, 0, 0⟩,
  ⟨0xF4, 0, 0, 0, 0, 0⟩,
  ⟨0xF8, 0xFF, 0, 0, 0, 0x10⟩]

/-- All registers of the SUP page. -/
def rowsSUP : List RegRow := rowsSUPA ++ rowsSUPB ++ rowsSUPC

/-- Registers of the THM page, part 1: PCAP to PSEL (R383 of 16_thermal.md). -/
def rowsTHMA : List RegRow := [
  ⟨0x4, 0, 0, 0, 0, 0x9⟩,
  ⟨0x8, 0x2, 0, 0, 0x10, 0x1⟩,
  ⟨0x10, 0, 0, 0xFFFF, 0, 0⟩,
  ⟨0x14, 0xFFFFFFFF, 0, 0, 0, 0⟩,
  ⟨0x20, 0xFFFFFFFF, 0, 0, 0, 0x69462300⟩,
  ⟨0x24, 0xF, 0, 0, 0, 0x2⟩,
  ⟨0x28, 0x1FFFFFFF, 0, 0, 0, 0x1F64C573⟩,
  ⟨0x2C, 0xFF, 0, 0, 0, 0x7D⟩,
  ⟨0x30, 0xFFFFFFFF, 0, 0, 0, 0⟩,
  ⟨0x34, 0, 0, 0, 0, 0⟩,
  ⟨0x38, 0, 0, 0, 0, 0⟩,
  ⟨0x3C, 0, 0, 0, 0, 0x8000⟩,
  ⟨0x40, 0, 0, 0, 0, 0x8000⟩,
  ⟨0x44, 0, 0, 0, 0, 0x8000⟩,
  ⟨0x48, 0, 0, 0, 0, 0x8000⟩,
  ⟨0x4C, 0, 0, 0, 0, 0x8000⟩,
  ⟨0x50, 0, 0, 0, 0, 0x8000⟩,
  ⟨0x54, 0, 0, 0, 0, 0x8000⟩,
  ⟨0x58, 0, 0, 0, 0, 0x8000⟩,
  ⟨0x5C, 0, 0, 0, 0, 0x8000⟩,
  ⟨0x60, 0, 0, 0, 0, 0x8000⟩,
  ⟨0x64, 0, 0, 0, 0, 0x8000⟩,
  ⟨0x68, 0, 0, 0, 0, 0⟩,
  ⟨0x6C, 0x7, 0, 0, 0, 0⟩]

/-- Registers of the THM page, part 2: PCNT to CLR (R383 of 16_thermal.md). -/
def rowsTHMB : List RegRow := [
  ⟨0x70, 0, 0, 0, 0, 0⟩,
  ⟨0x74, 0, 0, 0, 0x1, 0⟩]

/-- All registers of the THM page. -/
def rowsTHM : List RegRow := rowsTHMA ++ rowsTHMB

/-- Registers of the OTP page: PCAP to DIGH (R447 of 19_otp.md). -/
def rowsOTP : List RegRow := [
  ⟨0x4, 0, 0, 0, 0, 0x200⟩,
  ⟨0x8, 0x2, 0, 0, 0x10, 0x1⟩,
  ⟨0x10, 0, 0, 0xFFFF, 0, 0⟩,
  ⟨0x14, 0xFFFFFFFF, 0, 0, 0, 0⟩,
  ⟨0x20, 0x301FF, 0, 0, 0, 0⟩,
  ⟨0x24, 0, 0, 0, 0, 0⟩,
  ⟨0x28, 0, 0, 0, 0, 0⟩,
  ⟨0x2C, 0x1FF, 0, 0, 0, 0⟩,
  ⟨0x30, 0xFFFFFFFF, 0, 0, 0, 0⟩,
  ⟨0x34, 0, 0, 0, 0xFF000773, 0⟩,
  ⟨0x38, 0, 0, 0, 0, 0⟩,
  ⟨0x3C, 0, 0, 0, 0, 0⟩,
  ⟨0x40, 0, 0, 0, 0, 0⟩,
  ⟨0x44, 0, 0, 0, 0, 0⟩,
  ⟨0x48, 0x7, 0, 0, 0, 0⟩,
  ⟨0x4C, 0, 0, 0, 0, 0⟩,
  ⟨0x50, 0, 0, 0, 0, 0⟩]

/-- Registers of the WDG page: PCAP to CAPFRM (R411 of 17_control_core_and_watchdog.md). -/
def rowsWDG : List RegRow := [
  ⟨0x4, 0, 0, 0, 0, 0x10⟩,
  ⟨0x8, 0x2, 0, 0, 0x10, 0x1⟩,
  ⟨0x10, 0, 0, 0xFFFF, 0, 0⟩,
  ⟨0x14, 0xFFFFFFFF, 0, 0, 0, 0⟩,
  ⟨0x20, 0xFFFFF, 0, 0, 0, 0⟩,
  ⟨0x24, 0xFFFFF, 0, 0, 0, 0x7D0⟩,
  ⟨0x28, 0xFFFF, 0, 0, 0, 0x1⟩,
  ⟨0x2C, 0xFF02, 0, 0, 0x1, 0xA00⟩,
  ⟨0x30, 0, 0, 0, 0xFFFF, 0⟩,
  ⟨0x34, 0, 0, 0, 0, 0⟩,
  ⟨0x38, 0, 0, 0, 0, 0⟩,
  ⟨0x3C, 0, 0, 0, 0, 0⟩,
  ⟨0x40, 0, 0, 0, 0, 0⟩,
  ⟨0x44, 0, 0, 0, 0, 0⟩,
  ⟨0x48, 0, 0, 0x1, 0, 0⟩,
  ⟨0x4C, 0, 0, 0, 0, 0⟩,
  ⟨0x50, 0, 0, 0, 0, 0⟩,
  ⟨0x54, 0, 0, 0, 0, 0⟩,
  ⟨0x58, 0, 0, 0, 0, 0⟩]

/-- Registers of the REC page, part 1: PCAP to SBUF3 (R429 of 18_event_recorder.md). -/
def rowsRECA : List RegRow := [
  ⟨0x4, 0, 0, 0, 0, 0x100⟩,
  ⟨0x8, 0x2, 0, 0, 0x10, 0x1⟩,
  ⟨0x10, 0, 0, 0xFFFF, 0, 0⟩,
  ⟨0x14, 0xFFFFFFFF, 0, 0, 0, 0⟩,
  ⟨0x20, 0xFFFF071E, 0, 0, 0, 0x3C0A0300⟩,
  ⟨0x24, 0xFFFFFEFF, 0, 0, 0, 0xFFFFFFFF⟩,
  ⟨0x28, 0xFFFFFFFF, 0, 0, 0, 0xFFFFFFFF⟩,
  ⟨0x2C, 0xFFFFFFFF, 0, 0, 0, 0xFFFFFFFF⟩,
  ⟨0x30, 0xFFFF, 0, 0, 0, 0xDFF3⟩,
  ⟨0x34, 0, 0, 0, 0, 0⟩,
  ⟨0x38, 0, 0, 0, 0, 0⟩,
  ⟨0x3C, 0, 0, 0, 0, 0⟩,
  ⟨0x40, 0, 0, 0, 0, 0⟩,
  ⟨0x44, 0, 0, 0, 0, 0⟩,
  ⟨0x48, 0, 0, 0, 0, 0x1000⟩,
  ⟨0x4C, 0, 0, 0, 0x3, 0⟩,
  ⟨0x50, 0, 0, 0, 0, 0xF00⟩,
  ⟨0x54, 0xFFFFFF, 0, 0, 0, 0⟩,
  ⟨0x58, 0, 0, 0, 0x3, 0⟩,
  ⟨0x5C, 0, 0, 0, 0, 0⟩,
  ⟨0x60, 0xFFFFFFFF, 0, 0, 0, 0⟩,
  ⟨0x64, 0xFFFFFFFF, 0, 0, 0, 0⟩,
  ⟨0x68, 0xFFFFFFFF, 0, 0, 0, 0⟩,
  ⟨0x6C, 0xFFFFFFFF, 0, 0, 0, 0⟩]

/-- Registers of the REC page, part 2: SBUF4 to ERRCNT (R429 of 18_event_recorder.md). -/
def rowsRECB : List RegRow := [
  ⟨0x70, 0xFFFFFFFF, 0, 0, 0, 0⟩,
  ⟨0x74, 0xFFFFFFFF, 0, 0, 0, 0⟩,
  ⟨0x78, 0xFFFFFFFF, 0, 0, 0, 0⟩,
  ⟨0x7C, 0xFFFFFFFF, 0, 0, 0, 0⟩,
  ⟨0x80, 0xFFFFFFFF, 0, 0, 0, 0⟩,
  ⟨0x84, 0xFFFFFFFF, 0, 0, 0, 0⟩,
  ⟨0x88, 0xFFFFFFFF, 0, 0, 0, 0⟩,
  ⟨0x8C, 0xFFFFFFFF, 0, 0, 0, 0⟩,
  ⟨0x90, 0xFFFFFFFF, 0, 0, 0, 0⟩,
  ⟨0x94, 0xFFFFFFFF, 0, 0, 0, 0⟩,
  ⟨0x98, 0xFFFFFFFF, 0, 0, 0, 0⟩,
  ⟨0x9C, 0xFFFFFFFF, 0, 0, 0, 0⟩,
  ⟨0xA0, 0, 0, 0, 0, 0⟩,
  ⟨0xA4, 0, 0, 0, 0, 0⟩,
  ⟨0xA8, 0, 0, 0, 0xFFFFFFFF, 0⟩,
  ⟨0xAC, 0, 0, 0, 0xFFFFFFFF, 0⟩,
  ⟨0xB0, 0, 0, 0, 0x1, 0⟩,
  ⟨0xB4, 0, 0, 0, 0, 0⟩,
  ⟨0xB8, 0, 0, 0, 0, 0⟩]

/-- All registers of the REC page. -/
def rowsREC : List RegRow := rowsRECA ++ rowsRECB

/-- Registers of the RTC page, part 1: PCAP to SNAPPTL (R467 of 20_rtc_plinth_domain.md). -/
def rowsRTCA : List RegRow := [
  ⟨0x4, 0, 0, 0, 0, 0x104⟩,
  ⟨0x8, 0x2, 0, 0, 0x10, 0x1⟩,
  ⟨0x10, 0, 0, 0xFFFF, 0, 0⟩,
  ⟨0x14, 0xFFFFFFFF, 0, 0, 0, 0⟩,
  ⟨0x20, 0x33, 0, 0, 0, 0x1⟩,
  ⟨0x24, 0, 0, 0, 0, 0⟩,
  ⟨0x28, 0, 0, 0, 0, 0xC00420⟩,
  ⟨0x2C, 0x7FFFFFF, 0, 0, 0, 0⟩,
  ⟨0x30, 0xFFFFFF, 0, 0, 0, 0⟩,
  ⟨0x34, 0, 0, 0, 0xF0F, 0⟩,
  ⟨0x38, 0xFFFF, 0, 0, 0, 0⟩,
  ⟨0x3C, 0x3FF, 0, 0, 0, 0⟩,
  ⟨0x40, 0x7FFFFFF, 0, 0, 0, 0⟩,
  ⟨0x44, 0xFFFFFF, 0, 0, 0, 0⟩,
  ⟨0x48, 0x1FFFF, 0, 0, 0, 0⟩,
  ⟨0x4C, 0, 0, 0x3F, 0, 0x1⟩,
  ⟨0x50, 0xFFF, 0, 0, 0, 0⟩,
  ⟨0x54, 0, 0, 0xF0000, 0, 0⟩,
  ⟨0x58, 0x3, 0, 0, 0, 0⟩,
  ⟨0x5C, 0, 0, 0, 0, 0⟩,
  ⟨0x60, 0, 0, 0, 0, 0⟩,
  ⟨0x64, 0, 0, 0, 0, 0⟩,
  ⟨0x68, 0, 0, 0, 0, 0⟩,
  ⟨0x6C, 0, 0, 0, 0, 0⟩]

/-- Registers of the RTC page, part 2: SNAPPTH to BKP15 (R467 of 20_rtc_plinth_domain.md). -/
def rowsRTCB : List RegRow := [
  ⟨0x70, 0, 0, 0, 0, 0⟩,
  ⟨0x74, 0, 0, 0, 0, 0⟩,
  ⟨0x80, 0xFFFFFFFF, 0, 0, 0, 0⟩,
  ⟨0x84, 0xFFFFFFFF, 0, 0, 0, 0⟩,
  ⟨0x88, 0xFFFFFFFF, 0, 0, 0, 0⟩,
  ⟨0x8C, 0xFFFFFFFF, 0, 0, 0, 0⟩,
  ⟨0x90, 0xFFFFFFFF, 0, 0, 0, 0⟩,
  ⟨0x94, 0xFFFFFFFF, 0, 0, 0, 0⟩,
  ⟨0x98, 0xFFFFFFFF, 0, 0, 0, 0⟩,
  ⟨0x9C, 0xFFFFFFFF, 0, 0, 0, 0⟩,
  ⟨0xA0, 0xFFFFFFFF, 0, 0, 0, 0⟩,
  ⟨0xA4, 0xFFFFFFFF, 0, 0, 0, 0⟩,
  ⟨0xA8, 0xFFFFFFFF, 0, 0, 0, 0⟩,
  ⟨0xAC, 0xFFFFFFFF, 0, 0, 0, 0⟩,
  ⟨0xB0, 0xFFFFFFFF, 0, 0, 0, 0⟩,
  ⟨0xB4, 0xFFFFFFFF, 0, 0, 0, 0⟩,
  ⟨0xB8, 0xFFFFFFFF, 0, 0, 0, 0⟩,
  ⟨0xBC, 0xFFFFFFFF, 0, 0, 0, 0⟩]

/-- All registers of the RTC page. -/
def rowsRTC : List RegRow := rowsRTCA ++ rowsRTCB

/-- Registers of the EFU page, part 1: PCAP to FI1 (R370 of 15_input_protection.md). -/
def rowsEFUA : List RegRow := [
  ⟨0x4, 0, 0, 0, 0, 0x2⟩,
  ⟨0x8, 0x2, 0, 0, 0x10, 0x1⟩,
  ⟨0x10, 0, 0, 0xFFFF, 0, 0⟩,
  ⟨0x14, 0xFFFFFFFF, 0, 0, 0, 0⟩,
  ⟨0x20, 0xFFFFF1, 0, 0, 0x2, 0x140A30⟩,
  ⟨0x24, 0x3FF3FFF, 0, 0, 0, 0x414C8⟩,
  ⟨0x28, 0xFFFFFFFF, 0, 0, 0, 0x6407D0⟩,
  ⟨0x2C, 0xFFF0FFF, 0, 0, 0, 0x83402EE⟩,
  ⟨0x30, 0xFFFF, 0, 0, 0, 0x3E8⟩,
  ⟨0x34, 0, 0, 0, 0, 0⟩,
  ⟨0x38, 0, 0, 0, 0, 0⟩,
  ⟨0x3C, 0, 0, 0, 0, 0⟩,
  ⟨0x40, 0, 0, 0, 0, 0⟩,
  ⟨0x44, 0, 0, 0, 0, 0⟩,
  ⟨0x48, 0, 0, 0, 0, 0⟩,
  ⟨0x4C, 0, 0, 0, 0, 0⟩,
  ⟨0x50, 0, 0, 0, 0, 0⟩,
  ⟨0x60, 0xFFFFF1, 0, 0, 0x2, 0x140A30⟩,
  ⟨0x64, 0x3FF3FFF, 0, 0, 0, 0x414C8⟩,
  ⟨0x68, 0xFFFFFFFF, 0, 0, 0, 0x6407D0⟩,
  ⟨0x6C, 0xFFF0FFF, 0, 0, 0, 0x83402EE⟩,
  ⟨0x70, 0xFFFF, 0, 0, 0, 0x3E8⟩,
  ⟨0x74, 0, 0, 0, 0, 0⟩,
  ⟨0x78, 0, 0, 0, 0, 0⟩]

/-- Registers of the EFU page, part 2: FV1 to CPSTAT (R370 of 15_input_protection.md). -/
def rowsEFUB : List RegRow := [
  ⟨0x7C, 0, 0, 0, 0, 0⟩,
  ⟨0x80, 0, 0, 0, 0, 0⟩,
  ⟨0x84, 0, 0, 0, 0, 0⟩,
  ⟨0x88, 0, 0, 0, 0, 0⟩,
  ⟨0x8C, 0, 0, 0, 0, 0⟩,
  ⟨0x90, 0, 0, 0, 0, 0⟩,
  ⟨0xA0, 0, 0, 0, 0, 0⟩,
  ⟨0xA4, 0, 0, 0, 0, 0⟩,
  ⟨0xA8, 0, 0, 0, 0xF, 0⟩,
  ⟨0xAC, 0, 0, 0, 0, 0⟩]

/-- All registers of the EFU page. -/
def rowsEFU : List RegRow := rowsEFUA ++ rowsEFUB

/-- Registers of the BUS page: PCAP to CNT (R292 of 11_bus_energy_exchange.md). -/
def rowsBUS : List RegRow := [
  ⟨0x4, 0, 0, 0, 0, 0⟩,
  ⟨0x8, 0x2, 0, 0, 0x10, 0x1⟩,
  ⟨0x10, 0, 0, 0xFFFF, 0, 0⟩,
  ⟨0x14, 0xFFFFFFFF, 0, 0, 0, 0⟩,
  ⟨0x20, 0x3F03FFFF, 0, 0, 0, 0x3F02F0F0⟩,
  ⟨0x24, 0xFFFFFFFF, 0, 0, 0, 0⟩,
  ⟨0x28, 0xFFFF, 0, 0, 0, 0⟩,
  ⟨0x2C, 0xFFFFFFFF, 0, 0, 0, 0x35203138⟩,
  ⟨0x30, 0xFFFFFFFF, 0, 0, 0, 0x4A381F40⟩,
  ⟨0x34, 0, 0, 0, 0, 0x1000000⟩,
  ⟨0x38, 0, 0, 0, 0, 0⟩,
  ⟨0x3C, 0, 0, 0, 0, 0⟩,
  ⟨0x40, 0, 0, 0, 0, 0⟩,
  ⟨0x44, 0, 0, 0, 0, 0⟩,
  ⟨0x48, 0x3F, 0, 0, 0, 0⟩,
  ⟨0x4C, 0, 0, 0, 0, 0⟩,
  ⟨0x50, 0, 0, 0, 0, 0⟩,
  ⟨0x54, 0, 0, 0, 0, 0⟩]

/-- Registers of the CAL page, part 1: PCAP to FAULT0 (R222 of 08_measurement.md). -/
def rowsCALA : List RegRow := [
  ⟨0x4, 0, 0, 0, 0, 0⟩,
  ⟨0x8, 0x3, 0, 0, 0x10, 0x1⟩,
  ⟨0x10, 0, 0, 0xFFFF, 0, 0⟩,
  ⟨0x14, 0xFFFFFFFF, 0, 0, 0, 0⟩,
  ⟨0x20, 0xFFFFFF03, 0, 0, 0, 0x3E80A02⟩,
  ⟨0x24, 0x3FFF3FFF, 0, 0, 0, 0x1D4C2328⟩,
  ⟨0x28, 0x7FFFFF, 0, 0, 0, 0⟩,
  ⟨0x2C, 0, 0, 0, 0, 0⟩,
  ⟨0x30, 0xFFFFFFFF, 0, 0, 0, 0x1F40064⟩,
  ⟨0x34, 0xFFFFFFFF, 0, 0, 0, 0x138807D0⟩,
  ⟨0x38, 0xFFFFFFFF, 0, 0, 0, 0xD6B2710⟩,
  ⟨0x3C, 0x337FF, 0, 0, 0, 0⟩,
  ⟨0x40, 0xFFFFFFFF, 0, 0, 0, 0⟩,
  ⟨0x44, 0x3F, 0, 0, 0, 0⟩,
  ⟨0x48, 0, 0, 0, 0, 0⟩,
  ⟨0x4C, 0, 0, 0, 0, 0⟩,
  ⟨0x50, 0, 0, 0, 0, 0⟩,
  ⟨0x54, 0, 0, 0, 0, 0⟩,
  ⟨0x58, 0, 0, 0, 0, 0x8000⟩,
  ⟨0x5C, 0x7, 0, 0, 0, 0⟩,
  ⟨0x60, 0, 0, 0, 0, 0xFF00FF⟩,
  ⟨0x64, 0, 0, 0, 0, 0⟩,
  ⟨0x68, 0, 0, 0, 0, 0⟩,
  ⟨0x6C, 0, 0, 0, 0, 0⟩]

/-- Registers of the CAL page, part 2: FAULT1 to ACCCLR1 (R222 of 08_measurement.md). -/
def rowsCALB : List RegRow := [
  ⟨0x70, 0, 0, 0, 0, 0⟩,
  ⟨0x74, 0, 0, 0, 0, 0⟩,
  ⟨0x78, 0, 0, 0, 0, 0⟩,
  ⟨0x7C, 0, 0, 0, 0, 0⟩,
  ⟨0x80, 0, 0, 0, 0xFFFFFFFF, 0⟩,
  ⟨0x84, 0, 0, 0, 0xFFFFFFFF, 0⟩]

/-- All registers of the CAL page. -/
def rowsCAL : List RegRow := rowsCALA ++ rowsCALB

/-- Registers of the EST page: PCAP to CNEW (R314 of 12_state_estimation.md). -/
def rowsEST : List RegRow := [
  ⟨0x4, 0, 0, 0, 0, 0⟩,
  ⟨0x8, 0x2, 0, 0, 0x10, 0x1⟩,
  ⟨0x10, 0, 0, 0xFFFF, 0, 0⟩,
  ⟨0x14, 0xFFFFFFFF, 0, 0, 0, 0⟩,
  ⟨0x20, 0xFFFFFFFF, 0, 0, 0, 0xFA0801A⟩,
  ⟨0x24, 0xFFFFFFFF, 0, 0, 0, 0x3C0048⟩,
  ⟨0x28, 0, 0, 0, 0xFF, 0⟩,
  ⟨0x2C, 0, 0, 0, 0, 0⟩,
  ⟨0x30, 0, 0, 0, 0xFFFF003F, 0⟩,
  ⟨0x34, 0xFFFF, 0, 0, 0x10000, 0xA⟩,
  ⟨0x38, 0xFF, 0, 0, 0, 0⟩,
  ⟨0x3C, 0xFFFFFFFF, 0, 0, 0, 0⟩,
  ⟨0x40, 0, 0, 0xFFFFFFFF, 0, 0⟩,
  ⟨0x44, 0, 0, 0xFFFFFFFF, 0, 0⟩,
  ⟨0x48, 0xFFFFFFFF, 0, 0, 0, 0⟩,
  ⟨0x4C, 0xFFFFFFFF, 0, 0, 0, 0⟩,
  ⟨0x50, 0, 0, 0xFFFFFFFF, 0, 0⟩,
  ⟨0x54, 0, 0, 0xFFFFFFFF, 0, 0⟩,
  ⟨0x58, 0, 0, 0xFFFFFFFF, 0, 0⟩,
  ⟨0x5C, 0, 0, 0xFFFFFFFF, 0, 0⟩,
  ⟨0x60, 0x3F, 0, 0, 0, 0⟩,
  ⟨0x64, 0, 0, 0, 0, 0⟩,
  ⟨0x68, 0, 0, 0, 0, 0⟩,
  ⟨0x6C, 0, 0, 0, 0, 0⟩]

/-- Registers of the EIS page: PCAP to RESMASK1 (R333 of 13_impedance_sweep.md). -/
def rowsEIS : List RegRow := [
  ⟨0x4, 0, 0, 0, 0, 0x8⟩,
  ⟨0x8, 0x2, 0, 0, 0x10, 0x1⟩,
  ⟨0x10, 0, 0, 0xFFFF, 0, 0⟩,
  ⟨0x14, 0xFFFFFFFF, 0, 0, 0, 0⟩,
  ⟨0x20, 0x73F, 0, 0, 0, 0⟩,
  ⟨0x24, 0, 0, 0, 0, 0⟩,
  ⟨0x28, 0, 0, 0, 0, 0⟩,
  ⟨0x2C, 0, 0, 0, 0, 0⟩,
  ⟨0x30, 0, 0, 0, 0, 0⟩,
  ⟨0x34, 0, 0, 0, 0, 0⟩,
  ⟨0x38, 0, 0, 0, 0, 0⟩,
  ⟨0x3C, 0, 0, 0, 0, 0⟩,
  ⟨0x40, 0, 0, 0, 0, 0⟩,
  ⟨0x44, 0, 0, 0, 0, 0⟩,
  ⟨0x48, 0, 0, 0, 0, 0⟩,
  ⟨0x4C, 0, 0, 0xFFFFFFFF, 0, 0⟩,
  ⟨0x50, 0, 0, 0xFFFFFFFF, 0, 0⟩,
  ⟨0x54, 0, 0, 0xFFFFFFFF, 0, 0⟩,
  ⟨0x58, 0, 0, 0xFFFFFFFF, 0, 0⟩]

/-- Registers of the TLM page, part 1: PCAP to CVPK (R354 of 14_telemetry_reports.md). -/
def rowsTLMA : List RegRow := [
  ⟨0x4, 0, 0, 0, 0, 0x400⟩,
  ⟨0x8, 0x3, 0, 0, 0x10, 0x1⟩,
  ⟨0x10, 0, 0, 0xFFFF, 0, 0⟩,
  ⟨0x14, 0xFFFFFFFF, 0, 0, 0, 0⟩,
  ⟨0x20, 0, 0x1FFFF, 0, 0, 0x64⟩,
  ⟨0x24, 0xFFFF0007, 0, 0, 0, 0x27100001⟩,
  ⟨0x28, 0x3FFFF, 0, 0, 0, 0⟩,
  ⟨0x2C, 0xFFFFFF, 0, 0, 0, 0⟩,
  ⟨0x30, 0xFFFFFFFF, 0, 0, 0, 0xFFFFFFFF⟩,
  ⟨0x34, 0xFFFFFFFF, 0, 0, 0, 0xFFFFFFFF⟩,
  ⟨0x38, 0, 0, 0, 0, 0⟩,
  ⟨0x3C, 0, 0, 0, 0, 0⟩,
  ⟨0x40, 0, 0, 0, 0, 0⟩,
  ⟨0x44, 0, 0, 0, 0, 0⟩,
  ⟨0x48, 0xFFFF, 0, 0, 0, 0⟩,
  ⟨0x4C, 0, 0, 0, 0, 0⟩,
  ⟨0x50, 0, 0, 0, 0, 0⟩,
  ⟨0x54, 0, 0, 0, 0, 0⟩,
  ⟨0x58, 0x3F, 0, 0, 0, 0⟩,
  ⟨0x5C, 0, 0, 0, 0, 0⟩,
  ⟨0x60, 0, 0, 0, 0, 0⟩,
  ⟨0x64, 0, 0, 0, 0, 0⟩,
  ⟨0x68, 0, 0, 0, 0, 0x80008000⟩,
  ⟨0x6C, 0, 0, 0, 0, 0x7FFF8000⟩]

/-- Registers of the TLM page, part 2: CIPK to LFDATA10 (R354 of 14_telemetry_reports.md). -/
def rowsTLMB : List RegRow := [
  ⟨0x70, 0, 0, 0, 0, 0x7FFF8000⟩,
  ⟨0x74, 0, 0, 0, 0, 0x7FFF8000⟩,
  ⟨0x78, 0, 0, 0, 0, 0x8000⟩,
  ⟨0x7C, 0, 0, 0, 0, 0⟩,
  ⟨0x80, 0, 0, 0, 0, 0⟩,
  ⟨0x84, 0, 0, 0, 0, 0x80000000⟩,
  ⟨0x88, 0, 0, 0, 0, 0x7FFFFFFF⟩,
  ⟨0x8C, 0, 0, 0, 0, 0x80000000⟩,
  ⟨0x90, 0, 0, 0, 0, 0x7FFFFFFF⟩,
  ⟨0x94, 0, 0, 0, 0, 0x8000⟩,
  ⟨0x98, 0, 0, 0, 0x7, 0⟩,
  ⟨0x9C, 0x3F, 0, 0, 0, 0⟩,
  ⟨0xA0, 0, 0, 0, 0, 0⟩,
  ⟨0xA4, 0, 0, 0, 0, 0⟩,
  ⟨0xA8, 0, 0, 0, 0, 0⟩,
  ⟨0xAC, 0, 0, 0, 0, 0⟩,
  ⟨0xB0, 0, 0, 0, 0, 0⟩,
  ⟨0xB4, 0, 0, 0, 0, 0⟩,
  ⟨0xB8, 0, 0, 0, 0, 0⟩,
  ⟨0xBC, 0, 0, 0, 0, 0⟩,
  ⟨0xC0, 0, 0, 0, 0, 0⟩,
  ⟨0xC4, 0, 0, 0, 0, 0⟩,
  ⟨0xC8, 0, 0, 0, 0, 0⟩,
  ⟨0xCC, 0, 0, 0, 0, 0⟩]

/-- Registers of the TLM page, part 3: LFDATA11 to LFPEND1 (R354 of 14_telemetry_reports.md). -/
def rowsTLMC : List RegRow := [
  ⟨0xD0, 0, 0, 0, 0, 0⟩,
  ⟨0xD4, 0, 0, 0, 0, 0⟩,
  ⟨0xD8, 0, 0, 0, 0, 0⟩,
  ⟨0xDC, 0, 0, 0, 0, 0⟩,
  ⟨0xE0, 0, 0, 0, 0, 0⟩,
  ⟨0xE4, 0, 0, 0, 0, 0⟩,
  ⟨0xE8, 0, 0, 0, 0, 0⟩]

/-- All registers of the TLM page. -/
def rowsTLM : List RegRow := rowsTLMA ++ rowsTLMB ++ rowsTLMC

/-- Registers of the HIF page: PCAP to QSTAT (R130 of 05_register_model_and_host_port.md). -/
def rowsHIF : List RegRow := [
  ⟨0x4, 0, 0, 0, 0, 0⟩,
  ⟨0x8, 0x2, 0, 0, 0x10, 0x1⟩,
  ⟨0x10, 0, 0, 0xFFFF, 0, 0⟩,
  ⟨0x14, 0xFFFFFFFF, 0, 0, 0, 0⟩,
  ⟨0x20, 0x1, 0, 0, 0, 0⟩,
  ⟨0x24, 0, 0, 0x80000000, 0, 0⟩,
  ⟨0x28, 0, 0, 0, 0, 0⟩,
  ⟨0x2C, 0, 0, 0, 0x1, 0⟩,
  ⟨0x30, 0, 0, 0, 0, 0⟩,
  ⟨0x34, 0, 0, 0, 0, 0⟩]

/-- Registers of the ULK page: PCAP to CNTCLR (R491 of 21_plant_link_lines.md). -/
def rowsULK : List RegRow := [
  ⟨0x4, 0, 0, 0, 0, 0⟩,
  ⟨0x8, 0x3, 0, 0, 0x10, 0x1⟩,
  ⟨0x10, 0, 0, 0xFFFF, 0, 0⟩,
  ⟨0x14, 0xFFFFFFFF, 0, 0, 0, 0⟩,
  ⟨0x20, 0x37F, 0, 0, 0, 0x36⟩,
  ⟨0x24, 0xFFFFFFF, 0, 0, 0, 0x4280A08⟩,
  ⟨0x28, 0, 0, 0, 0, 0x80⟩,
  ⟨0x2C, 0, 0, 0, 0, 0⟩,
  ⟨0x30, 0, 0, 0, 0, 0xFF00⟩,
  ⟨0x34, 0, 0, 0, 0, 0⟩,
  ⟨0x38, 0, 0, 0, 0, 0⟩,
  ⟨0x3C, 0, 0, 0, 0, 0⟩,
  ⟨0x40, 0, 0, 0, 0, 0⟩,
  ⟨0x44, 0, 0, 0, 0, 0⟩,
  ⟨0x48, 0, 0, 0, 0x1, 0⟩]

/-- Registers of the PTM page, part 1: PCAP to BRTL (R162 of 06_lane_modulation.md, R533 of 23_plant_time_and_barriers.md). -/
def rowsPTMA : List RegRow := [
  ⟨0x4, 0, 0, 0, 0, 0x810⟩,
  ⟨0x8, 0x2, 0, 0, 0x10, 0x1⟩,
  ⟨0x10, 0, 0, 0xFFFF, 0, 0⟩,
  ⟨0x14, 0xFFFFFFFF, 0, 0, 0, 0⟩,
  ⟨0x20, 0xFFFFF03, 0, 0, 0, 0x5180A00⟩,
  ⟨0x24, 0xFFFFFFFF, 0, 0, 0, 0x27100014⟩,
  ⟨0x28, 0, 0, 0, 0x7, 0⟩,
  ⟨0x2C, 0, 0, 0, 0, 0⟩,
  ⟨0x30, 0, 0, 0, 0, 0⟩,
  ⟨0x34, 0, 0, 0, 0, 0⟩,
  ⟨0x38, 0, 0, 0, 0, 0⟩,
  ⟨0x3C, 0, 0, 0, 0, 0⟩,
  ⟨0x40, 0, 0, 0, 0, 0⟩,
  ⟨0x44, 0, 0, 0, 0, 0⟩,
  ⟨0x48, 0xFFFF, 0, 0, 0, 0⟩,
  ⟨0x4C, 0xFFFF, 0, 0, 0, 0⟩,
  ⟨0x50, 0xFFFF, 0, 0, 0, 0⟩,
  ⟨0x54, 0xFFFF, 0, 0, 0, 0⟩,
  ⟨0x58, 0xFFFFFFFF, 0, 0, 0, 0⟩,
  ⟨0x5C, 0xFFFFFFFF, 0, 0, 0, 0⟩,
  ⟨0x60, 0, 0, 0, 0, 0⟩,
  ⟨0x64, 0, 0, 0, 0, 0⟩,
  ⟨0x68, 0x3FFFF, 0, 0, 0, 0x10000⟩,
  ⟨0x6C, 0xFFFFFFFF, 0, 0, 0, 0⟩]

/-- Registers of the PTM page, part 2: BRTH to SYNCERR (R162 of 06_lane_modulation.md, R533 of 23_plant_time_and_barriers.md). -/
def rowsPTMB : List RegRow := [
  ⟨0x70, 0xFFFFFFFF, 0, 0, 0, 0⟩,
  ⟨0x74, 0, 0, 0, 0x1, 0⟩,
  ⟨0x78, 0xFFFFFF, 0, 0, 0, 0x64⟩,
  ⟨0x7C, 0x7, 0, 0, 0, 0⟩,
  ⟨0x80, 0x7FFFF, 0, 0, 0, 0x10000⟩,
  ⟨0x84, 0xFFFFFFFF, 0, 0, 0, 0⟩,
  ⟨0x88, 0xFFFFFFFF, 0, 0, 0, 0⟩,
  ⟨0x8C, 0xFFFFFF, 0, 0, 0, 0⟩,
  ⟨0x90, 0xFFFF, 0, 0, 0, 0⟩,
  ⟨0x94, 0, 0, 0, 0, 0⟩,
  ⟨0x98, 0, 0, 0, 0, 0⟩,
  ⟨0xC0, 0x71, 0, 0, 0, 0x60⟩,
  ⟨0xC4, 0xFFFF, 0, 0, 0, 0x3200⟩,
  ⟨0xC8, 0xFFFF, 0, 0, 0, 0⟩,
  ⟨0xCC, 0, 0, 0, 0x1, 0⟩,
  ⟨0xD0, 0, 0, 0, 0, 0x32000000⟩,
  ⟨0xD4, 0, 0, 0, 0, 0⟩,
  ⟨0xD8, 0, 0, 0, 0, 0⟩]

/-- All registers of the PTM page. -/
def rowsPTM : List RegRow := rowsPTMA ++ rowsPTMB

/-- Registers of the CORE page, part 1: PCAP to TRAPCAUSE (R409 of 17_control_core_and_watchdog.md). -/
def rowsCOREA : List RegRow := [
  ⟨0x4, 0, 0, 0, 0, 0x3⟩,
  ⟨0x8, 0x2, 0, 0, 0x10, 0x1⟩,
  ⟨0x10, 0, 0, 0xFFFF, 0, 0⟩,
  ⟨0x14, 0xFFFFFFFF, 0, 0, 0, 0⟩,
  ⟨0x20, 0x1, 0, 0, 0, 0x1⟩,
  ⟨0x24, 0, 0, 0, 0, 0⟩,
  ⟨0x28, 0, 0, 0, 0x1, 0⟩,
  ⟨0x2C, 0, 0, 0, 0, 0⟩,
  ⟨0x30, 0xFFFFFFFF, 0, 0, 0, 0⟩,
  ⟨0x34, 0xFFFFFFFF, 0, 0, 0, 0⟩,
  ⟨0x38, 0xFFFFFFFF, 0, 0, 0, 0⟩,
  ⟨0x3C, 0x1, 0, 0, 0, 0⟩,
  ⟨0x40, 0xFFFFFFFF, 0, 0, 0, 0⟩,
  ⟨0x44, 0xFFFFFFFF, 0, 0, 0, 0⟩,
  ⟨0x48, 0xFFFFFFFF, 0, 0, 0, 0xFFFFFFFF⟩,
  ⟨0x4C, 0xFFFFFFFF, 0, 0, 0, 0xFFFFFFFF⟩,
  ⟨0x50, 0, 0, 0, 0x1, 0⟩,
  ⟨0x54, 0xFFFFFFFF, 0, 0, 0, 0⟩,
  ⟨0x58, 0xFFFFFFFF, 0, 0, 0, 0⟩,
  ⟨0x5C, 0xFFFFFFFF, 0, 0, 0, 0⟩,
  ⟨0x60, 0xFFFFFFFF, 0, 0, 0, 0⟩,
  ⟨0x64, 0x1, 0, 0, 0, 0⟩,
  ⟨0x68, 0, 0, 0, 0, 0⟩,
  ⟨0x6C, 0, 0, 0, 0, 0⟩]

/-- Registers of the CORE page, part 2: TRAPPC to TRAPPC (R409 of 17_control_core_and_watchdog.md). -/
def rowsCOREB : List RegRow := [
  ⟨0x70, 0, 0, 0, 0, 0⟩]

/-- All registers of the CORE page. -/
def rowsCORE : List RegRow := rowsCOREA ++ rowsCOREB

/-- Registers of the DBG page: PCAP to CMD (R413 of 17_control_core_and_watchdog.md). -/
def rowsDBG : List RegRow := [
  ⟨0x4, 0, 0, 0, 0, 0⟩,
  ⟨0x8, 0x2, 0, 0, 0x10, 0x1⟩,
  ⟨0x10, 0, 0, 0xFFFF, 0, 0⟩,
  ⟨0x14, 0xFFFFFFFF, 0, 0, 0, 0⟩,
  ⟨0x20, 0, 0, 0, 0, 0⟩,
  ⟨0x24, 0, 0, 0, 0, 0⟩,
  ⟨0x28, 0, 0, 0, 0, 0⟩,
  ⟨0x2C, 0, 0, 0, 0xFFFFFFFF, 0⟩,
  ⟨0x30, 0, 0, 0, 0xFFFFFFFF, 0⟩,
  ⟨0x34, 0, 0, 0, 0x3, 0⟩]

/-- Registers of the RCP page, part 1: PCAP to EBUF7 (R252 of 09_recipe_engine.md). -/
def rowsRCPA : List RegRow := [
  ⟨0x4, 0, 0, 0, 0, 0⟩,
  ⟨0x8, 0x3, 0, 0, 0x10, 0x1⟩,
  ⟨0x10, 0, 0, 0xFFFF, 0, 0⟩,
  ⟨0x14, 0xFFFFFFFF, 0, 0, 0, 0⟩,
  ⟨0x20, 0x1, 0, 0, 0, 0x1⟩,
  ⟨0x24, 0, 0, 0, 0, 0⟩,
  ⟨0x28, 0, 0, 0, 0, 0⟩,
  ⟨0x2C, 0, 0, 0, 0, 0⟩,
  ⟨0x30, 0, 0, 0, 0, 0⟩,
  ⟨0x34, 0, 0, 0xFFFFFFFF, 0, 0⟩,
  ⟨0x38, 0, 0, 0xFFFFFFFF, 0, 0⟩,
  ⟨0x3C, 0, 0, 0xFFFFFFFF, 0, 0⟩,
  ⟨0x40, 0, 0, 0xFFFFFFFF, 0, 0⟩,
  ⟨0x44, 0, 0, 0xFFFFFFFF, 0, 0⟩,
  ⟨0x48, 0, 0, 0xFFFFFFFF, 0, 0⟩,
  ⟨0x4C, 0, 0, 0, 0xFFFF, 0⟩,
  ⟨0x50, 0xFFFFFFFF, 0, 0, 0, 0⟩,
  ⟨0x54, 0xFFFFFFFF, 0, 0, 0, 0⟩,
  ⟨0x58, 0xFFFFFFFF, 0, 0, 0, 0⟩,
  ⟨0x5C, 0xFFFFFFFF, 0, 0, 0, 0⟩,
  ⟨0x60, 0xFFFFFFFF, 0, 0, 0, 0⟩,
  ⟨0x64, 0xFFFFFFFF, 0, 0, 0, 0⟩,
  ⟨0x68, 0xFFFFFFFF, 0, 0, 0, 0⟩,
  ⟨0x6C, 0xFFFFFFFF, 0, 0, 0, 0⟩]

/-- Registers of the RCP page, part 2: ECMD to LOOP3 (R252 of 09_recipe_engine.md). -/
def rowsRCPB : List RegRow := [
  ⟨0x70, 0, 0, 0, 0x11FFF, 0⟩,
  ⟨0x74, 0, 0, 0, 0, 0⟩,
  ⟨0x78, 0x3F, 0, 0, 0, 0⟩,
  ⟨0x7C, 0, 0, 0, 0, 0⟩,
  ⟨0x80, 0, 0, 0, 0, 0⟩,
  ⟨0x84, 0, 0, 0, 0, 0⟩,
  ⟨0x88, 0, 0, 0, 0, 0⟩,
  ⟨0x8C, 0, 0, 0, 0, 0⟩,
  ⟨0x90, 0, 0, 0, 0, 0⟩,
  ⟨0x94, 0, 0, 0, 0, 0⟩,
  ⟨0x98, 0, 0, 0, 0, 0⟩,
  ⟨0x9C, 0, 0, 0, 0, 0⟩,
  ⟨0xA0, 0, 0, 0, 0, 0⟩,
  ⟨0xA4, 0, 0, 0, 0, 0⟩]

/-- All registers of the RCP page. -/
def rowsRCP : List RegRow := rowsRCPA ++ rowsRCPB

/-- Registers of the LANE page, part 1: PCAP to MODE (R160 of 06_lane_modulation.md, R189 of 07_channels_and_phase_health.md, R224 of 08_measurement.md, R251 of 09_recipe_engine.md, R278 of 10_charge_sequence_and_safety.md, R313 of 12_state_estimation.md, R332 of 13_impedance_sweep.md). -/
def rowsLANEA : List RegRow := [
  ⟨0x4, 0, 0, 0, 0, 0⟩,
  ⟨0x8, 0x2, 0, 0, 0x10, 0x1⟩,
  ⟨0x10, 0, 0, 0xFFFF, 0, 0⟩,
  ⟨0x14, 0xFFFFFFFF, 0, 0, 0, 0⟩,
  ⟨0x20, 0, 0x1FFF03, 0, 0, 0x136302⟩,
  ⟨0x24, 0, 0x3FF03FF, 0, 0, 0x1000100⟩,
  ⟨0x28, 0, 0x3FFFFFFF, 0, 0, 0⟩,
  ⟨0x2C, 0, 0x3FFFFFFF, 0, 0, 0⟩,
  ⟨0x30, 0, 0xFFF00FF, 0, 0, 0x40⟩,
  ⟨0x34, 0, 0x7FF07FF, 0, 0, 0x4000200⟩,
  ⟨0x38, 0, 0xFFFF, 0, 0, 0⟩,
  ⟨0x3C, 0, 0xFF, 0, 0, 0x28⟩,
  ⟨0x40, 0, 0, 0, 0, 0⟩,
  ⟨0x44, 0, 0, 0, 0, 0⟩,
  ⟨0x48, 0, 0xFFFF, 0, 0, 0⟩,
  ⟨0x4C, 0, 0, 0, 0, 0⟩,
  ⟨0x50, 0, 0x3, 0, 0, 0⟩,
  ⟨0x54, 0, 0x3F, 0, 0, 0⟩,
  ⟨0x58, 0, 0x1FFFFFFF, 0, 0, 0x1F400000⟩,
  ⟨0x5C, 0, 0xFFFFFFFF, 0, 0, 0x4080000⟩,
  ⟨0x64, 0, 0, 0, 0, 0⟩,
  ⟨0x68, 0, 0, 0, 0, 0⟩,
  ⟨0x6C, 0, 0x1, 0, 0x6, 0⟩,
  ⟨0x70, 0, 0x3, 0, 0, 0⟩]

/-- Registers of the LANE page, part 2: SETPT to SOCINT (R160 of 06_lane_modulation.md, R189 of 07_channels_and_phase_health.md, R224 of 08_measurement.md, R251 of 09_recipe_engine.md, R278 of 10_charge_sequence_and_safety.md, R313 of 12_state_estimation.md, R332 of 13_impedance_sweep.md). -/
def rowsLANEB : List RegRow := [
  ⟨0x74, 0, 0xFFFFFFFF, 0, 0, 0⟩,
  ⟨0x78, 0, 0xFFFFFFFF, 0, 0, 0⟩,
  ⟨0x7C, 0, 0xFFFFFFFF, 0, 0, 0⟩,
  ⟨0x80, 0, 0xFFFFFFFF, 0, 0, 0xD6D8⟩,
  ⟨0x84, 0, 0xFFFFFFFF, 0, 0, 0x800A00⟩,
  ⟨0x88, 0, 0xFFFF0003, 0, 0, 0x640000⟩,
  ⟨0x8C, 0, 0xFFFFFFFF, 0, 0, 0x5000064⟩,
  ⟨0x90, 0, 0xFFFFFFFF, 0, 0, 0xFC18D6D8⟩,
  ⟨0x94, 0, 0x7FFFFFF, 0, 0, 0x1148064⟩,
  ⟨0x98, 0, 0, 0, 0, 0⟩,
  ⟨0x9C, 0, 0, 0, 0, 0⟩,
  ⟨0xA0, 0, 0x71FFF, 0, 0, 0⟩,
  ⟨0xA4, 0, 0x1FFF03FF, 0, 0, 0xA⟩,
  ⟨0xA8, 0, 0, 0, 0, 0⟩,
  ⟨0xAC, 0, 0, 0, 0, 0⟩,
  ⟨0xB0, 0, 0, 0, 0, 0⟩,
  ⟨0xB4, 0, 0, 0, 0, 0⟩,
  ⟨0xB8, 0, 0, 0, 0, 0⟩,
  ⟨0xBC, 0, 0xFFFFFF01, 0, 0, 0x141E01⟩,
  ⟨0xC0, 0, 0xFFFFFF3F, 0, 0, 0x642830⟩,
  ⟨0xC4, 0, 0xFFFF, 0, 0, 0x32⟩,
  ⟨0xC8, 0xFFFFFFFF, 0, 0, 0, 0⟩,
  ⟨0xCC, 0, 0, 0, 0, 0⟩,
  ⟨0xD0, 0, 0, 0, 0, 0⟩]

/-- Registers of the LANE page, part 3: ANCH to EISPOS (R160 of 06_lane_modulation.md, R189 of 07_channels_and_phase_health.md, R224 of 08_measurement.md, R251 of 09_recipe_engine.md, R278 of 10_charge_sequence_and_safety.md, R313 of 12_state_estimation.md, R332 of 13_impedance_sweep.md). -/
def rowsLANEC : List RegRow := [
  ⟨0xD4, 0, 0, 0, 0, 0⟩,
  ⟨0xD8, 0, 0, 0, 0, 0⟩,
  ⟨0xDC, 0xFF, 0, 0, 0, 0⟩,
  ⟨0xE0, 0, 0xFFFF0003, 0, 0, 0⟩,
  ⟨0xE4, 0, 0, 0, 0, 0⟩,
  ⟨0xE8, 0, 0, 0, 0, 0⟩,
  ⟨0xEC, 0, 0, 0, 0, 0⟩,
  ⟨0xF0, 0, 0, 0, 0, 0⟩,
  ⟨0xF4, 0, 0, 0, 0, 0⟩,
  ⟨0xF8, 0, 0, 0, 0, 0⟩,
  ⟨0xFC, 0, 0, 0, 0, 0⟩]

/-- All registers of the LANE page. -/
def rowsLANE : List RegRow := rowsLANEA ++ rowsLANEB ++ rowsLANEC

end Sys2Proof.Machine
end

