-- ==== Sys2Proof/Machine/Sparse.lean ====
section
/-!
DEFINITION. Sys2Proof/Machine/Sparse.lean: data by number, in one canonical form.

A register space, a memory or an OTP array is a list of (number, value) pairs, numbers strictly rising, that
lists no value equal to what an unlisted number reads as (`d`).  Equal contents are therefore equal lists.
-/

namespace Sys2Proof.Machine

/-- The value at `k`; an unlisted number reads `d k`. -/
def sparseGet {α : Type} (d : Nat → α) : List (Nat × α) → Nat → α
  | [], k => d k
  | (j, v) :: m, k => if k = j then v else sparseGet d m k

/-- Drops every number outside `keep`. -/
def sparseKeep {α : Type} (keep : Nat → Bool) (m : List (Nat × α)) : List (Nat × α) := m.filter (fun p => keep p.1)

/-- Puts one pair in front, or, where it says what an unlisted number says, drops its number. -/
def sparseCons {α : Type} [DecidableEq α] (d : Nat → α) (k : Nat) (v : α) (m : List (Nat × α)) : List (Nat × α) :=
  if v = d k then sparseKeep (fun j => j != k) m else (k, v) :: m

/-- Writes `v` at `k`, keeping the canonical form. -/
def sparseSet {α : Type} [DecidableEq α] (d : Nat → α) : List (Nat × α) → Nat → α → List (Nat × α)
  | [], k, v => sparseCons d k v []
  | (j, u) :: m, k, v =>
    if k = j then sparseCons d k v m
    else if k < j then sparseCons d k v ((j, u) :: m)
    else (j, u) :: sparseSet d m k v

/-- Every number listed is at least `n`, numbers rise, and no listed value is the unlisted one. -/
def sparseOk {α : Type} [DecidableEq α] (d : Nat → α) : Nat → List (Nat × α) → Bool
  | _, [] => true
  | n, (k, v) :: m => decide (n ≤ k) && decide (v ≠ d k) && sparseOk d (k + 1) m

/-- The canonical form. -/
def sparseWf {α : Type} [DecidableEq α] (d : Nat → α) (m : List (Nat × α)) : Bool := sparseOk d 0 m

end Sys2Proof.Machine
end

