-- ==== Sys2Proof/Machine/State.lean ====
section
/-!
DEFINITION. Sys2Proof/Machine/State.lean: everything the spec gives the TK864, as plain data.

A value that software can read as a field of a register has one home, the register store `regs` (or `stage` for a
value written and not yet committed).  The structures below hold what no register shows.  Memories, the record
store and the OTP array are sparse lists in canonical form.  Currents inside the loops are counted in 1/256 of
100 nA, voltages in µV.
-/

namespace Sys2Proof.Machine

/-! ### Registers and staging (chapter 05) -/

/-- A staged register value (R109) and whether a commit has armed it since it was last written (R114). -/
structure Staged where
  val : Word
  armed : Bool
  deriving DecidableEq, Repr

/-- A commit that is armed for the next boundary (R114): its tag, its DEV bit, its extended lane mask, the staged
values it armed, and the pages whose armed values were discarded since (R116). -/
structure Arm where
  tag : Nat
  dev : Bool
  lanes : Nat
  vals : List (Nat × Word)
  dropped : List Nat
  deriving DecidableEq, Repr

/-- The error codes of the host port (R123). -/
inductive HostErr where
  | none | addr | crc | stale | opcode | frame | notReady | overflow
  deriving DecidableEq, Repr

/-- What the host port last shifted out: the status byte, and each word read with its CRC byte (R122, R124). -/
structure HostReply where
  status : Nat
  words : List (Word × Byte)
  deriving DecidableEq, Repr

/-- The host port (R118 to R129): outcome of the previous frame, the posted-write queue (address, word), the last
reply, whether a PORT reset of the port is running, and whether one waits for the end of the carrying frame's write. -/
structure Hif where
  prevErr : HostErr
  queue : List (Nat × Word)
  reply : HostReply
  resetting : Bool
  deriving DecidableEq, Repr

/-- Read latches of one initiator: the words that a read of a low word captured (R205, R218, R333, R366, R409, R411,
R452, R533), as (register address, word). -/
structure Latch where
  who : Init
  addr : Nat
  val : Word
  deriving DecidableEq, Repr

/-! ### Supplies (chapter 03) -/

/-- The sequencer states of R61 and R62. -/
inductive SeqState where
  | powerless | intUp | intDown | intLatched | off | up | on | down | minoff | faildown | latched | lastgasp
  deriving DecidableEq, Repr

/-- The last classification of a rail sample (R53). -/
inductive RailClass where
  | inWindow | low | high
  deriving DecidableEq, Repr

/-- One supervised rail (R53 to R55): latest code and class, consecutive in-window samples, consecutive low samples,
consecutive high samples, consecutive samples out of window, and whether CHATF was set since the last clear. -/
structure Rail where
  code : Nat
  cls : RailClass
  inRun : Nat
  lowRun : Nat
  highRun : Nat
  outRun : Nat
  chatted : Bool
  deriving DecidableEq, Repr

/-- The sequencer (R57 to R66): state, present internal or external step, held ON request, the ENX outputs of the
sampled order, sampled RTIM and RAILCFG words (R58), the ENX raised so far (the next to be lowered first), whether VIN is above
the power-fail level, whether the last-gasp path has completed, and the slot that the supervisor converts next (R51). -/
structure Psq where
  st : SeqState
  step : Nat
  pendOn : Bool
  order : List Nat
  rtim : List Word
  railcfg : List Word
  raised : List Nat
  vinOk : Bool
  gaspDone : Bool
  scan : Nat
  deriving DecidableEq, Repr

/-! ### Clocks, resets and modes (chapter 04) -/

/-- The device modes of R91. -/
inductive Mode where
  | run | standby | deepSleep
  deriving DecidableEq, Repr

/-- Clock monitor and PLL (R73 to R79): consecutive REFCLK windows out of band and in band, consecutive CLK_SYS
windows out of band, windows of the present holdover, whether CLK_SYS runs, and whether a release waits for the PLL (R79); a
boundary falls in the present cycle whose work has not run yet, and the work of cycle 1,000 of this frame is to come (R19, R20). -/
structure Clk where
  refBad : Nat
  refGood : Nat
  sysBad : Nat
  holdW : Nat
  pllOn : Bool
  waitPll : Bool
  due : Bool
  open_ : Bool
  deriving DecidableEq, Repr

/-- Reset control (R80 to R89): whether the device is in DEVICE or POR reset, RESET_N low, a RESET_N that waits for the
last gasp (R83), lanes whose CHAN reset waits for the boundary (R86), a mode request not yet taken (R91), and the wake sources that
were active since DEEP_SLEEP was entered and show no level of their own, by bit of WAKEEN (R94). -/
structure Rst where
  inReset : Bool
  pinLow : Bool
  afterGasp : Bool
  chanPend : Nat
  modeReq : Option Mode
  wake : Nat
  deriving DecidableEq, Repr

/-- PTIME in ns (R19), the CLK_SYS cycle within the frame, and the ns CLK_SYS has run since t3 of the release whatever steps
PTIME took; the frame count is `ptime / 10000`. -/
structure Time where
  ptime : Nat
  cyc : Nat
  loc : Nat
  deriving DecidableEq, Repr

/-! ### Lanes and channels (chapters 06, 07) -/

/-- The lane states that PSTAT reports (R189). -/
inductive LaneSt where
  | safe | closed | idle | switching | brake | shed
  deriving DecidableEq, Repr

/-- The modulator of one lane (R133 to R158): gate and ISO outputs, bootstrap precharge running, first trigger since start still to
come, on-time in progress, direction of the cycle in progress and of the grant (true: discharging), whether the grant marks the lane
active, N_FF and V_EFF formed at cycle 1,000 (R137), in 1/65,536 tap pV and pV, the share and the sharing correction (R176), whether
the last cycle was withheld for bootstrap, sum and number of trip errors of the cycles whose phase edges fall in this frame and in
the next (R145), whether the lane switched in this frame and in the previous one, limited cycles of this frame (R181), the number of
the reference edge whose phase edge comes next, and, in taps of local time, t1 of R134 or R146 and t4 of R134. -/
structure Modu where
  gh : Bool
  gl : Bool
  iso : Bool
  pre : Bool
  first : Bool
  onTime : Bool
  cycDis : Bool
  grDis : Bool
  active : Bool
  nff : Int
  veff : Int
  share : Int
  corr : Int
  withheld : Bool
  dSum : Int
  dCnt : Nat
  dNext : Int
  dNextN : Nat
  swNow : Bool
  swPrev : Bool
  ocNow : Nat
  edge : Int
  t1 : Int
  t4 : Int
  deriving DecidableEq, Repr

/-- Frame-counted protection and phase health of one lane (R182 to R185): frames in a row at OCN, over-current samples
in a row, frames toward OPEN_LOW, DISAGREE and STUCK, samples in a row below ILANE/64 (R169), followers' contact samples
in a row (R275), V_REF in 10 pV (R273) and CLK_SYS cycles in a row with both contact comparators true. -/
structure Health where
  ocRun : Nat
  overRun : Nat
  openRun : Nat
  disRun : Nat
  stuckRun : Nat
  lowRun : Nat
  clRun : Nat
  vRef : Int
  clCyc : Nat
  deriving DecidableEq, Repr

/-- Channel states of R166. -/
inductive ChSt where
  | safe | closing | active | stopping | hold | ramp
  deriving DecidableEq, Repr

/-- One channel, in its lead lane (R166 to R177): state, slewed target T, integrals of the mode loop and of the two clamp
loops, demand and grant of the last frame, frames since STOPPING or RAMP began, stop complete at the last
boundary, the aging count A_k (R285), and a new loop whose first demand is still to come (R175). -/
structure Chan where
  st : ChSt
  tgt : Int
  iInt : Int
  hInt : Int
  lInt : Int
  dem : Int
  grant : Int
  stopFrames : Nat
  stopDone : Bool
  age : Nat
  fresh : Bool
  deriving DecidableEq, Repr

/-- Samples of one lane (R192 to R200): served current (100 nA) and voltage (µV) control samples and those before them, three-stage
integrators and combs of the precision filters (R198), frames into the precision window, sums and count of the low-rate average,
precision samples, sum and count of thermistor ratios (1/4096), lane temperature valid and in 0.01 °C, frames in a row at or below
RDN, samples for which a hand-over, a range switch and a band change stay within the longest precision window, a range switch in the
window of the next sample (R196), the accumulators in pC and aJ (R217), open and shorted thermistor, frames in a row that each
converter clipped (R214), the precision samples of the last two seconds, newest first, as (frames of local time, voltage, current),
and what this frame added to the accumulators of the channel that the lane leads, in pC and aJ (R217). -/
structure Meas where
  iS : Int
  vS : Int
  iPrev : Int
  vPrev : Int
  iInteg : List Int
  vInteg : List Int
  iComb : List Int
  vComb : List Int
  iLow : Int
  vLow : Int
  lowCnt : Nat
  iP : Int
  vP : Int
  pNew : Bool
  thSum : Nat
  thCnt : Nat
  temp : Option Int
  rdnRun : Nat
  mkSwap : Nat
  mkSw : Nat
  swNext : Bool
  mkBand : Nat
  qAcc : Int
  eAcc : Int
  thOpen : Bool
  thShort : Bool
  iClip : Nat
  vClip : Nat
  pHist : List (Nat × Int × Int)
  iFrm : Int
  eFrm : Int
  deriving DecidableEq, Repr

/-! ### Calibration (chapter 08) -/

/-- A spare converter (R206 to R215): phase as `ROVESTAT.PHASE` codes it, input visited (0 to 63 currents, 64 to 127 voltages),
subject, converter it is parked on (255: none), faulty, fallback, frames since its overlap began, sum of the matching
window in 2^-84 of full scale, restarts in this visit, calibration restarted once, the visit counts as skipped, it is to park,
the sum of a finished window, the frame of H1, and frames in a row that it clipped (R214). -/
structure Spare where
  phase : Nat
  input : Nat
  subj : Nat
  parkedOn : Nat
  failed : Bool
  fallback : Bool
  ovl : Nat
  sum : Int
  restarts : Nat
  again : Bool
  skipped : Bool
  park : Bool
  ready : Option Int
  h1 : Nat
  clip : Nat
  deriving DecidableEq, Repr

/-- A hand-over ramp (R210): input, the difference in 1/65,536 of the sample's unit, and m of the next sample. -/
structure Ramp where
  input : Nat
  delta : Int
  m : Nat
  deriving DecidableEq, Repr

/-- The last completed visit of an input (R220): when, in local ns, and in which band. -/
structure Visit where
  input : Nat
  at_ : Nat
  band : Nat
  deriving DecidableEq, Repr

/-- Coefficient words by ((converter × 5 + band) × 3 + range type) × 4 + word (R203), the spares, inputs served by a spare
(input, spare), ramps, last visits, banks whose inputs are no longer visited, the last VREFX reading passed, and invalid THCFG. -/
structure Cal where
  coef : List (Nat × Word)
  spares : Vector Spare 8
  serve : List (Nat × Nat)
  ramps : List Ramp
  vis : List Visit
  stopped : Nat
  xrefOk : Bool
  thBad : Bool
  deriving DecidableEq, Repr

/-! ### Recipe engine and charge sequence (chapters 09, 10) -/

/-- Engine states of R246. -/
inductive ESt where
  | idle | starting | run | barrier | paused | ended | faulted | aborted
  deriving DecidableEq, Repr

/-- One loop-stack entry (R234). -/
structure LoopEnt where
  owner : Nat
  start : Nat
  cnt : Nat
  deriving DecidableEq, Repr

/-- The engine-owned targets of R232. -/
structure Targets where
  mode : Nat
  setpt : Nat
  slew : Nat
  clmpH : Nat
  clmpL : Nat
  limC : Nat
  limD : Nat
  deriving DecidableEq, Repr

/-- One recipe engine (R225 to R248): state, the state a PAUSE left, copy of the running record, elapsed count E,
qualification counts of T0, T1, SVMAX and SVMIN, references at step entry (QACC, EACC, V_CELL) and whether a regulating
step has set them, loop stack (top first), base clamps and limits, references and local frame of the last mark, PULSE at level B and
frames of the present level, registers of engine-owned fields that a commit changed at this boundary (addresses within the page), the last
control samples (newest first) for qualified means, targets in force when PAUSE applied, local frame of the last entry, and
the RESULT qualifier of a forced SAFE not yet evaluated (0: none), the step to be entered in the next evaluation, an abort not yet
evaluated (0 none, 1 command, 2 RUN = 0), offsets of the registers that a commit changed since the last step entry, the last OCV
result, and ID, step index, frame count, QACC and EACC of the last mark. -/
structure Eng where
  st : ESt
  prev : ESt
  recd : List Word
  e : Nat
  c0 : Nat
  c1 : Nat
  cMax : Nat
  cMin : Nat
  qIn : Int
  eIn : Int
  vIn : Int
  hasRef : Bool
  loops : List LoopEnt
  base : Targets
  mQ : Int
  mE : Int
  mFrame : Nat
  lvlB : Bool
  lvlCnt : Nat
  hostCm : List Nat
  hist : List (Int × Int)
  pauseT : Targets
  entry : Nat
  forced : Nat
  next : Option Nat
  abort : Nat
  held : List Nat
  ocvr : Int
  markId : Nat
  markStep : Nat
  rFrame : Nat
  rQ : Int
  rE : Int
  deriving DecidableEq, Repr

/-- Phases of a CHARGE step (R259), numbered as CHGSTAT.PHASE reports them. -/
inductive Phase where
  | none | trickle | pre | cc | cv | term | done
  deriving DecidableEq, Repr

/-- Temperature zones of R264. -/
inductive Zone where
  | cold | cool | normal | warm | hot | invalid
  deriving DecidableEq, Repr

/-- A CHARGE step in hand (R254 to R269): profile record, phase, zone, phase safety counter S, evaluated frames of the
phase, qualification counts of the phase change, of minimum current and of CHG_VLOW, rate of the last frame and whether
it advanced, taper reference and stalled minutes, a disturbed minute, −ΔV peak and seconds, the temperature at the
start of the dT/dt minute in hand, dT/dt minutes, the bank's throttling level of the last evaluation, and frames of that dT/dt minute. -/
structure Chg where
  prof : List Word
  phase : Phase
  zone : Zone
  s : Nat
  frames : Nat
  qPh : Nat
  qMin : Nat
  qVlow : Nat
  lastIm : Option Int
  stall : Nat
  dirty : Bool
  vPk : Option Int
  ndvRun : Nat
  tRef : Option Int
  dtRun : Nat
  lvl : Nat
  tMin : Nat
  deriving DecidableEq, Repr

/-! ### Estimator (chapter 12) -/

/-- An anchor (R300, R302): SOC in 0.0001 %, weighted count in 1/65,536 pC, frames of local time before it, learnable. -/
structure Anchor where
  soc : Int
  qe : Int
  frame : Nat
  learnable : Bool
  deriving DecidableEq, Repr

/-- The estimator of one channel (R294): weighted count QE in 1/65,536 pC, the anchor (SA, QA), the rest counter, its value when the
channel became at rest (0: it has not), a break and a bad table seen in this rest period, the last anchor of the period, the start
point A1, the last 100 samples of I_CH (newest first), frames in a row at or below ILOW, a seed that waits for its boundary, the
seed of this boundary, C_new, OPTIME at the last accepted learn, whether r has been formed since the state was cleared (R303), and
an OCV step that completed in this frame: its result and MINREST (R301). -/
structure Est where
  qe : Int
  sa : Int
  qa : Int
  rest : Nat
  restAt : Nat
  broken : Bool
  badSet : Bool
  last : Option Anchor
  a1 : Option Anchor
  iHist : List Int
  lowRun : Nat
  seed : Option Nat
  seedNow : Option Nat
  cnew : Nat
  ltime : Nat
  shown : Bool
  ocv : Option (Int × Nat)
  deriving DecidableEq, Repr

/-- The estimator block: CHEFF copies of the tables (R298), tables being validated and those of them written meanwhile (R296), and
the writeback in progress (R310): its snapshot M, its target slot and its image. -/
structure EstBlk where
  cheff : List Nat
  check : Nat
  touched : Nat
  snap : Nat
  slot : Nat
  image : List Word
  deriving DecidableEq, Repr

/-! ### Impedance sweep (chapter 13) -/

/-- An EIS step's operands and tone table (R317, R318, R322, R323): base (0 REST, 1 CC, 2 CV), base setpoint, stagger, window in
frames, the K' of the tones, their amplitudes in mA, P_0 in mA, and settling and result windows. -/
structure SweepCfg where
  base : Nat
  basesp : Nat
  stag : Bool
  win : Nat
  ks : List Nat
  amps : List Nat
  p0 : Nat
  nset : Nat
  nwin : Nat
  deriving DecidableEq, Repr

/-- A channel's sweep (R320 to R327): settling windows left, the present window began at its boundary, frames in it, its flags, its
sums per tone, the running sums of result windows and the last one, as (sine, cosine) sums in 2^-48, result and invalid windows,
frame that closed the last window, active lanes wanted at entry (R321), the sum and count of V_CELL since the last update of a CV
base, its demand and its last error (R320), the count of result windows that `EIS.CHSTAT` shows, that a completion waits for the
next evaluation, phases referred to locked plant time, the flags of the last window, what was marked in the frame in hand, the tone
ran in the frame before, and the local frame, counted from 1, whose sample was taken last. -/
structure Sweep where
  cfg : SweepCfg
  settle : Nat
  whole : Bool
  n : Nat
  flags : Nat
  vAcc : List (Int × Int)
  iAcc : List (Int × Int)
  vSum : List (Int × Int)
  iSum : List (Int × Int)
  vLast : List (Int × Int)
  iLast : List (Int × Int)
  nval : Nat
  ninv : Nat
  winEnd : Nat
  act : Nat
  bSum : Int
  bCnt : Nat
  bDem : Int
  bErr : Int
  nshow : Nat
  done : Bool
  ptref : Bool
  wflags : Nat
  marks : Nat
  live : Bool
  seen : Nat
  deriving DecidableEq, Repr

/-! ### Card bus (chapter 11) and input protection (chapter 15) -/

/-- The allocator: correction COR and predicted net import in mA, the I_GR of each lane's channel in the last frame in mA (R292),
leads served by the first pass of the last frame, and first-pass services of each lane. -/
structure Bus where
  cor : Int
  net : Int
  last : Vector Int 64
  aged : Nat
  agesrv : Vector Nat 64
  deriving DecidableEq, Repr

/-- One feed beyond its registers (R357 to R366): SOA accumulator and energy in fJ, sums of this frame's samples (µA, mV, mV, nW and
their count), the input voltage last sampled in mV, and that the debounce in hand has had its input in window. -/
structure Feed where
  soa : Nat
  energy : Int
  iSum : Int
  vSum : Int
  dSum : Int
  pSum : Int
  n : Nat
  vin : Nat
  ins : Bool
  deriving DecidableEq, Repr

/-- The EFU: both feeds, and the sum and count of V(EFVB) samples of this frame. -/
structure Efu where
  feeds : Vector Feed 2
  vbSum : Int
  vbN : Nat
  deriving DecidableEq, Repr

/-! ### Telemetry (chapter 14) -/

/-- The report of one channel in the making (R340 to R344), its telemetry totals (R343) in 1/10 fC and exact energy
units: start, frames covered, sums and extremes of V_CELL, I_CH and their product, temperature sum, count, maximum and invalid
updates, flags seen, flags B marked since the last boundary and whether the channel entered SAFE since then, the step-state word at
cycle 0 of this frame, GAP, and the totals with their values at the start. -/
structure Report where
  startPt : Nat
  nfr : Nat
  vSum : Int
  iSum : Int
  pSum : Int
  vMax : Int
  vMin : Int
  iMax : Int
  iMin : Int
  pMax : Int
  pMin : Int
  tSum : Int
  tCnt : Nat
  tMax : Int
  tInv : Bool
  fla : Nat
  flb : Nat
  mark : Nat
  safed : Bool
  stepW : Nat
  gap : Bool
  qTot : Int
  eTot : Int
  qStart : Int
  eStart : Int
  deriving DecidableEq, Repr

/-- What the TLM page shows of a channel (R349): averages of the last sealed report and held peaks. -/
structure TlmView where
  vAvg : Int
  iAvg : Int
  pAvg : Int
  tAvg : Int
  tMax : Int
  pkVMax : Int
  pkVMin : Int
  pkIMax : Int
  pkIMin : Int
  pkPMax : Int
  pkPMin : Int
  pkTMax : Int
  deriving DecidableEq, Repr

/-- The report period and the double buffer (R335 to R348): a period runs, its start boundary and PTIME, its PER, sequence,
frames covered, the lanes reported, GAP, per-frame device sums and extremes, bus voltage
sum and extremes, highest temperature, the half that receives this period, the halves that drain to the link, oldest first, with
their entries, the boundary at which the last period ended (none: the next starts with GAP), peak clears pending, a late period not
yet made good, and the last period header. -/
structure Tlm where
  on : Bool
  start : Nat
  startPt : Nat
  per : Nat
  rseq : Nat
  nfr : Nat
  chen : Nat
  gap : Bool
  iSum : Int
  pSum : Int
  iMax : Int
  iMin : Int
  pMax : Int
  pMin : Int
  vbSum : Int
  vbMax : Int
  vbMin : Int
  tMax : Option Int
  half : Nat
  drain : List (Nat × List (List Word))
  ended : Option Nat
  pkChan : Nat
  pkAll : Bool
  pkDev : Bool
  catchup : Bool
  hdr : List Word
  deriving DecidableEq, Repr

/-- The last-fault capture of one lane (R350 to R352): the record, pending, valid, trips lost, captures since POR. -/
structure LfCap where
  words : List Word
  pend : Bool
  valid : Bool
  lost : Nat
  seq : Nat
  deriving DecidableEq, Repr
/-! ### Thermal control (chapter 16) -/

/-- Thermal control (R375 to R378, R383): automatic levels, pause-frame counts, banks that have taken the band of their first reading,
limits that were not rising at the last boundary, the banks' latest healthy readings, the local frame of the last update of the levels, and
`TWARN` (°C) and `PSEL` as they act since the last boundary. -/
structure Thm where
  auto : Vector Nat 8
  pcnt : Vector Nat 8
  banded : Nat
  thBad : Bool
  last : Vector (Option Int) 8
  updated : Option Nat
  warn : Int
  psel : Nat
  deriving DecidableEq, Repr

/-! ### Control core and watchdog (chapter 17) -/

/-- A blocking service in progress (R394): kind (1 RD, 3 WRN, 4 FENCE), the port and the tag of its request, and the buffer for read
data. -/
structure SvcWait where
  kind : Nat
  port : Nat
  tag : Nat
  buf : Nat
  deriving DecidableEq, Repr

/-- A call of an installed handler (R394): handler, mcause, mepc and mtval. -/
structure HandlerCall where
  entry : Word
  cause : Word
  epc : Word
  tval : Word
  deriving DecidableEq, Repr

/-- What the core's hardware writes of its own registers (R385, R386, R389): the address at which it last began to execute, `mepc`,
`mcause` and `mtval` of the last trap, and the counters `mcycle` and `minstret`. -/
structure CoreRegs where
  entry : Word
  mepc : Word
  mcause : Word
  mtval : Word
  mcycle : Nat
  minstret : Nat
  deriving DecidableEq, Repr

/-- The control core as the supervisor shows it (R388 to R394): a DEVICE or POR boot is still to run, this boot followed a CORE
reset, user firmware has run, an unclaimed exception was taken, installed handlers by mcause, the last handler called, results
a0 and a1 of the last service, the blocking service in progress, CLK_SYS cycles within the present microsecond of MTIME, and the
core's registers. -/
structure CoreSt where
  cold : Bool
  warm : Bool
  userRan : Bool
  trapped : Bool
  handlers : List (Word × Word)
  call : Option HandlerCall
  a0 : Word
  a1 : Word
  wait : Option SvcWait
  mfrac : Nat
  regs : CoreRegs
  deriving DecidableEq, Repr

/-- The watchdog beyond its registers (R396 to R404): it counts, O and C of the period in cycles, TASKEN and T520 in force, a first
period, PTIME and frame of the last valid service and whether there was one, and channels to be given a loss-of-control cause
at the next boundary. -/
structure Wdg where
  on : Bool
  opens : Nat
  closes : Nat
  tasks : Nat
  t520 : Bool
  first : Bool
  svcPt : Nat
  svcFrame : Nat
  served : Bool
  loc : Bool
  deriving DecidableEq, Repr

/-- Debug unlock (R408): the nonce is unanswered, the low response word, and the end of the hold-off in local ns. -/
structure Dbg where
  nonce : Bool
  respL : Word
  holdEnd : Nat
  deriving DecidableEq, Repr


/-! ### Event recorder (chapter 18) -/

/-- A capture latch (R416, R417): page (0xFF for types 3 to 7), type, bits newly set, PEVT and PSTAT at the capture, frame,
PTIME, the five DATA words, operating time and PCYC at the capture, and the MERGE, DEFER and NOREF flags. -/
structure RecLatch where
  page : Nat
  typ : Nat
  new : Nat
  pevt : Nat
  pstat : Nat
  frame : Nat
  ptime : Nat
  data : List Nat
  optime : Nat
  opfrac : Nat
  pcyc : Nat
  merge : Bool
  defer : Bool
  noref : Bool
  deriving DecidableEq, Repr

/-- What the store writer is writing (R423): nothing, the record at FSEQ, a lane's last-fault capture, or a header. -/
inductive RecJob where
  | none | record | capture (lane : Nat) | header
  deriving DecidableEq, Repr

/-- The recorder (R419 to R427): start-up done (R425), job of the store writer and whether it is being retried, FSEQ advanced in
this flush, the lane from which captures of this flush go on, flushes in a row stopped before FSEQ advanced, a flush trigger
waiting, a header write waiting, records lost since the last OVERRUN record and the first lost SEQ, sequence and copy of the newest
header, the store access in progress (0 none, 1 read, 2 write), the clear response words, the end of the clear hold-off (local ns),
the POWERFAIL snapshot of a last gasp, and ns of operating time below 1/256 s. -/
structure Evr where
  up : Bool
  job : RecJob
  retried : Bool
  adv : Bool
  capNext : Nat
  stops : Nat
  due : Bool
  hdrDue : Bool
  lostNew : Nat
  lostFirst : Nat
  hseq : Nat
  hcopy : Nat
  acc : Nat
  respL : Word
  respH : Word
  holdEnd : Nat
  gasp : Option RecLatch
  opNs : Nat
  deriving DecidableEq, Repr

/-! ### OTP shadows (chapter 19) -/

/-- Lifecycle states of R435. -/
inductive Life where
  | raw | test | prod | field | rma | scrap
  deriving DecidableEq, Repr

/-- What the blocks took from OTP at the last shadow load (R434, R441): enabled lanes, features, watchdog source, lifecycle
state in force, calibration temperature, serial number, key words (none: blank), default address (none: blank), reference model words. -/
structure Shadow where
  lanes : Nat
  eis : Bool
  nimh : Bool
  grading : Bool
  wdiSrc : Bool
  life : Life
  tcal : Int
  serial : Nat
  key : Option (List Word)
  addr : Option Nat
  vmodel : Word × Word
  deriving DecidableEq, Repr

/-- One OTP word as the three references read it (R440): normal, margin-high and margin-low.  A read under a reference is
the OR of the two fuse copies under it (R431). -/
structure OtpWord where
  normal : Word
  high : Word
  low : Word
  deriving DecidableEq, Repr
/-- The OTP controller (R438, R442): the command in hand (0 none, 1 PROGRAM, 2 FINALISE, 3 LIFE), the bits it still has to blow as
(word, bit), the region of a finalisation, and the array as the last shadow load read it. -/
structure OtpCtl where
  op : Nat
  todo : List (Nat × Nat)
  region : Nat
  boot : List (Nat × OtpWord)
  deriving DecidableEq, Repr

/-! ### Plinth domain (chapter 20) -/

/-- The plinth domain beyond its registers (R449 to R463): on MAIN, samples of the hold left, VBAK above V_BAK(f), changes to BAK,
cycles into the trim window, the CALP of that window, ticks of the wake period, carries out of SS still to be suppressed, a LOAD
since the plinth reset, stamps of each input oldest first as (A word, B word), and the write that crosses (address, word). -/
structure Plinth where
  main : Bool
  hold : Nat
  vbak : Bool
  bakcnt : Nat
  win : Nat
  calp : Int
  wk : Nat
  supp : Nat
  loaded : Bool
  fifos : Vector (List (Word × Word)) 4
  wr : Option (Nat × Word)
  deriving DecidableEq, Repr

/-! ### Link lines (chapter 21) -/

/-- What a port puts on its line between the ordered sets (R482, R484): a packet with its SEQ, an ACK or a NAK with SEQ and CREDIT. -/
inductive LineItem where
  | packet (seq : Nat) (pkt : Packet)
  | ack (seq credit : Nat)
  | nak (seq credit : Nat)
  | skp
  deriving DecidableEq, Repr

/-- A tag of a non-posted request in use (R501), and whether the ring walk (R512) or a blocking service (R394) holds it. -/
structure TagUse where
  tag : Nat
  walk : Bool
  deriving DecidableEq, Repr

/-- A link port beyond its registers (R477 to R488): SEEN, valid training sets in a row and valid TS2 in a row, ACTIVE reached since
DISABLED or a DEVICE reset, a packet accepted since fresh, FRESH, ADDR and PORT of the partner's latest training set, the replay
buffer (SEQ, packet) oldest first, resend rounds in a row without progress, a NAK outstanding, packets accepted since the last
ACK, tags in use, what the port put on its line when it last sent packets or link control frames, the characters sent since the last
SKP, and the fill of the elastic buffer beyond its middle (R476). -/
structure Port where
  seen : Bool
  tsRun : Nat
  ts2Run : Nat
  trained : Bool
  rxd : Bool
  peerFresh : Bool
  peerAddr : Nat
  peerPort : Nat
  replay : List (Nat × Packet)
  rounds : Nat
  nakOut : Bool
  ackCnt : Nat
  tags : List TagUse
  out : List LineItem
  chars : Nat
  elastic : Int
  deriving DecidableEq, Repr

/-! ### Link transactions (chapter 22) -/

/-- A packet that waits to leave (R486, R504): the packet, the port that its route names, and the port and SEQ it arrived with
when it is being forwarded. -/
structure OutPkt where
  pkt : Packet
  port : Nat
  from_ : Option (Nat × Nat)
  deriving DecidableEq, Repr

/-- A packet for this member in the receive queue (R485): port, SEQ, the PTIME stamp of its SOP in 1/256 ns (R521), and the packet. -/
structure RxPkt where
  port : Nat
  seq : Nat
  stamp : Int
  pkt : Packet
  deriving DecidableEq, Repr

/-- A ring walk (R512): zone ring or shelf ring, hops of the RD in progress, SRC of each completion in order, and whether the walk
has ended closed or open. -/
structure Walk where
  zone : Bool
  hops : Nat
  got : List Nat
  ended : Option Bool
  deriving DecidableEq, Repr

/-- The link table in force (R495, R496): address and whether it is assigned, roles, ring sizes and positions, EVENT
destination, telemetry mode, timers in ms, words of the group map, writes of APPLY, whether an initiator other than the supervisor
wrote APPLY, the address before the last APPLY and the local ns at which its completions end, claims (node, valid, local ns of
the last), the four counters of TXCNT, the local ns at which the address became assigned, the default role
assignment made (R511), summary records received since the last send, as (device field, words) (R507), and the ring walk. -/
structure LinkCfg where
  addr : Nat
  assigned : Bool
  shead : Bool
  keyst : Bool
  smem : Nat
  hpos : Nat
  zmem : Nat
  pcpos : Nat
  evNode : Nat
  evEn : Bool
  tlmMode : Nat
  cplto : Nat
  holdto : Nat
  groups : List Nat
  applyCnt : Nat
  foreignApply : Bool
  oldAddr : Option Nat
  oldEnd : Nat
  headNode : Nat
  headOk : Bool
  headAt : Nat
  ksNode : Nat
  ksOk : Bool
  ksAt : Nat
  cntTo : Nat
  cntLate : Nat
  cntTtl : Nat
  cntHold : Nat
  asgAt : Nat
  roleDone : Bool
  sums : List (Nat × List Word)
  walk : Option Walk
  deriving DecidableEq, Repr

/-! ### Plant time and barriers (chapter 23) -/

/-- A change of the frame count that waits for its boundary (R525): by `k` frames, or to a count (`SETT`). -/
inductive PtStep where
  | by_ (k : Int)
  | to (frame : Nat)
  deriving DecidableEq, Repr

/-- A pending release (R528): group, the frame it is due at, local ns of its acceptance, accepted in FREE or ACQ. -/
structure Bar where
  grp : Nat
  due : Nat
  at_ : Nat
  noref : Bool
  deriving DecidableEq, Repr

/-- A barrier schedule (R531): its registers `SCHCFG`, `SCHT0` (64 bits), `SCHPER`, `COUNT` and `DONE`. -/
structure Sched where
  cfg : Word
  t0 : Nat
  per : Word
  count : Nat
  done : Nat
  deriving DecidableEq, Repr

/-- Plant time beyond its registers (R521 to R531): the servo's I in 1/65,536 of 0.01 ppm, the F it formed last in 0.01 ppm, the
exchange number and the port and local ns of the last REQ, valid exchanges in a row within LOCKTH, beyond 4 LOCKTH, local ns of the
last valid exchange, the step that waits, pending releases in order of acceptance, the schedules as written, and the RW words of
R533 and the schedules in force since the last boundary. -/
structure Ptm where
  i : Int
  f : Int
  seqn : Nat
  req : Option (Nat × Nat)
  good : Nat
  bad : Nat
  since : Nat
  step : Option PtStep
  bars : List Bar
  scheds : Vector Sched 8
  rw : Vector Word 12
  acting : Vector Sched 8
  deriving DecidableEq, Repr

/-! ### The whole machine -/

/-- The modulation reference (R143, R149 to R154): P in taps with 16 fractional bits, consecutive edges toward qualification, the
interval of the last counted edge, the distance of the reference edge from SYNC_IN + SYNCDLY at that edge in 1/65,536 tap, the stamp
from which the next interval is measured and that of the last counted edge in taps of local time, a reference edge by its number
and its place, and the length of the period after it, both in 1/65,536 tap. -/
structure Mref where
  p16 : Nat
  qual : Nat
  lastInt : Nat
  err : Int
  stamp : Option Int
  counted : Int
  edgeNo : Int
  edge16 : Int
  gap16 : Int
  deriving DecidableEq, Repr

/-- Inputs as the device last saw them through their filters, and outputs that no register shows: SAFE_N acted and not
yet released (R128), banks whose VDRVb has not recovered (R157), the latest feed-forward samples of each bank, newest first, as
(local ns at which the sample completed, code) (R137, R138), banks paused in this
frame and in the frame before (R378), and VQPS in window (R443). -/
structure Pins where
  safeIn : Bool
  bankUv : Nat
  vbs : Vector (List (Nat × Nat)) 8
  paused : Nat
  pausedPrev : Nat
  vqps : Bool
  deriving DecidableEq, Repr

/-- One lane and the channel it leads. -/
structure Lane where
  st : LaneSt
  modu : Modu
  health : Health
  chan : Chan
  meas : Meas
  eng : Eng
  chg : Chg
  rep : Report
  view : TlmView
  est : Est
  swp : Sweep
  deriving DecidableEq, Repr

/-- The machine. `rel` holds the groups that `RCP.BARREL` releases at the next boundary (R239); `free` counts the free values drawn
so far (the model's own field). -/
structure State where
  regs : List (Nat × Word)
  stage : List (Nat × Option Staged)
  arms : List Arm
  latches : List Latch
  mem : List Host.Cell
  store : List Host.Cell
  time : Time
  hif : Hif
  psq : Psq
  rails : Vector Rail 16
  clk : Clk
  rst : Rst
  pins : Pins
  mref : Mref
  lanes : Vector Lane 64
  otp : List (Nat × OtpWord)
  shadow : Shadow
  link : LinkCfg
  outbox : List OutPkt
  recLatches : List RecLatch
  evr : Evr
  cal : Cal
  tlm : Tlm
  lf : Vector LfCap 64
  estb : EstBlk
  bus : Bus
  efu : Efu
  thm : Thm
  core : CoreSt
  wdg : Wdg
  dbg : Dbg
  otpc : OtpCtl
  pl : Plinth
  ports : Vector Port 4
  rxq : List RxPkt
  ptm : Ptm
  rel : List Nat
  pending : List Instr
  free : Nat
  deriving DecidableEq, Repr

/-- Reasons to stop: none.  Every command of the table has an effect that the spec gives. -/
inductive Fault where
  deriving DecidableEq, Repr

/-- Refusals.  -/
inductive Refusal where
  /-- A command whose meaning this model does not hold.  Raised by the arms of `exec`; safe, since nothing is claimed. -/
  | notModelled (mnemonic : String)
  deriving DecidableEq, Repr

/-! ### The state after reset -/

/-- The reset value of a register that its row cannot hold: `PHOFF.OFF` is the bit reversal of the lane number (R178),
`LSTAT.LEADLN` the lane number (R17), `PCTL.EN` 1 on ULK0 and ULK1 alone (R469), `ULKx.PCAP` the port number. -/
def rev6 (n : Nat) : Nat :=
  (n % 2) * 32 + (n / 2 % 2) * 16 + (n / 4 % 2) * 8 + (n / 8 % 2) * 4 + (n / 16 % 2) * 2 + n / 32 % 2

/-- The kind of page that a page index names (R117). -/
def pageRows (p : Nat) : List RegRow :=
  if 0x40 ≤ p ∧ p < 0x80 then rowsLANE
  else if 0x11 ≤ p ∧ p ≤ 0x14 then rowsULK
  else match p with
    | 0x00 => rowsSYS | 0x01 => rowsCLK | 0x02 => rowsRST | 0x03 => rowsPSQ | 0x04 => rowsSUP | 0x05 => rowsTHM
    | 0x06 => rowsOTP | 0x07 => rowsWDG | 0x08 => rowsREC | 0x09 => rowsRTC | 0x0A => rowsEFU | 0x0B => rowsBUS
    | 0x0C => rowsCAL | 0x0D => rowsEST | 0x0E => rowsEIS | 0x0F => rowsTLM | 0x10 => rowsHIF | 0x15 => rowsPTM
    | 0x16 => rowsCORE | 0x17 => rowsDBG | 0x18 => rowsRCP
    | _ => []

/-- The row of an offset, an all-reserved row where the map gives none. -/
def findRow : List RegRow → Nat → RegRow
  | [], off => ⟨off, 0, 0, 0, 0, 0⟩
  | r :: rs, off => if r.off = off then r else findRow rs off

/-- The row of a register address. -/
def regRow (a : Nat) : RegRow := findRow (pageRows (a / 256)) (a % 256)

/-- The reset value of the register at byte address `a` (the Reset column of its map, R178, R17, R469). -/
def resetWord (a : Nat) : Word :=
  let p := a / 256
  let off := a % 256
  if 0x40 ≤ p ∧ p < 0x80 ∧ off = 0x54 then BitVec.ofNat 32 (rev6 (p - 0x40))
  else if 0x40 ≤ p ∧ p < 0x80 ∧ off = 0x64 then BitVec.ofNat 32 (p - 0x40)
  else if 0x13 ≤ p ∧ p ≤ 0x14 ∧ off = 0x08 then 0
  else if 0x11 ≤ p ∧ p ≤ 0x14 ∧ off = 0x04 then BitVec.ofNat 32 (p - 0x11 + 128 * 256)
  else BitVec.ofNat 32 (regRow a).rst

def Rail.reset : Rail := ⟨0, .inWindow, 0, 0, 0, 0, false⟩
def Psq.reset : Psq := ⟨.off, 0, false, [], [], [], [], true, false, 0⟩
def Hif.reset : Hif := ⟨.none, [], ⟨0, []⟩, false⟩
def Clk.reset : Clk := ⟨0, 0, 0, 0, false, false, false, false⟩
def Rst.reset : Rst := ⟨true, false, false, 0, none, 0⟩
def Modu.reset : Modu :=
  ⟨false, false, false, false, false, false, false, false, false, 0, 0, 0, 0, false, 0, 0, 0, 0, false, false, 0, 0, 0, 0⟩
def Health.reset : Health := ⟨0, 0, 0, 0, 0, 0, 0, 0, 0⟩
def Chan.reset : Chan := ⟨.safe, 0, 0, 0, 0, 0, 0, 0, false, 0, false⟩
def Meas.reset : Meas :=
  ⟨0, 0, 0, 0, [0, 0, 0], [0, 0, 0], [0, 0, 0], [0, 0, 0], 0, 0, 0, 0, 0, false, 0, 0, none, 0, 0, 0, false, 0, 0, 0, false, false, 0, 0, [], 0, 0⟩
def Targets.reset : Targets := ⟨0, 0, 0, 0, 0, 0, 0⟩
def Eng.reset : Eng :=
  ⟨.idle, .run, [], 0, 0, 0, 0, 0, 0, 0, 0, false, [], Targets.reset, 0, 0, 0, false, 0, [], [], Targets.reset, 0, 0, none, 0, [], 0, 0, 0, 0, 0, 0⟩
def Chg.reset : Chg := ⟨[], .none, .cold, 0, 0, 0, 0, 0, none, 0, false, none, 0, none, 0, 0, 0⟩
def Mref.reset : Mref := ⟨12800 * 65536, 0, 0, 0, none, 0, 0, 0, 12800 * 65536⟩
def Pins.reset : Pins := ⟨true, 0, Vector.replicate 8 [], 0, 0, false⟩
def Shadow.reset : Shadow := ⟨0, false, false, false, false, .raw, 0, 0, none, none, (0, 0)⟩
def OtpWord.blank : OtpWord := ⟨0, 0, 0⟩
/-- A word whose set bits are fully blown. -/
def OtpWord.blown (w : Word) : OtpWord := ⟨w, w, w⟩
def LinkCfg.reset : LinkCfg :=
  ⟨0, false, false, false, 0, 0, 0, 0, 0x40000, true, 1, 10, 1, [], 0, false, none, 0, 0, false, 0, 0, false, 0, 0, 0, 0, 0, 0, false, [], none⟩
def Evr.reset : Evr := ⟨false, .none, false, false, 0, 0, false, false, 0, 0, 0, 0, 0, 0, 0, 0, none, 0⟩
def Spare.reset : Spare := ⟨0, 255, 255, 255, false, false, 0, 0, 0, false, false, false, none, 0, 0⟩
def Cal.reset : Cal := ⟨[], Vector.replicate 8 Spare.reset, [], [], [], 0, false, false⟩
def Est.reset : Est := ⟨0, 0, 0, 0, 0, false, false, none, none, [], 0, none, none, 0, 0, false, none⟩
def EstBlk.reset : EstBlk := ⟨List.replicate 8 65536, 0, 0, 0, 0, []⟩
def SweepCfg.reset : SweepCfg := ⟨0, 0, false, 1, [], [], 0, 0, 0⟩
def Sweep.reset : Sweep := ⟨SweepCfg.reset, 0, false, 0, 0, [], [], [], [], [], [], 0, 0, 0, 0, 0, 0, 0, 0, 0, false, false, 0, 0, false, 0⟩
def Bus.reset : Bus := ⟨0, 0, Vector.replicate 64 0, 0, Vector.replicate 64 0⟩
def Feed.reset : Feed := ⟨0, 0, 0, 0, 0, 0, 0, 0, false⟩
def Efu.reset : Efu := ⟨Vector.replicate 2 Feed.reset, 0, 0⟩
def Thm.reset : Thm := ⟨Vector.replicate 8 0, Vector.replicate 8 0, 0, false, Vector.replicate 8 none, none, 125, 0⟩
def CoreRegs.reset : CoreRegs := ⟨0xFF0000, 0, 0, 0, 0, 0⟩
def CoreSt.reset : CoreSt := ⟨true, false, false, false, [], none, 0, 0, none, 0, CoreRegs.reset⟩
def Wdg.reset : Wdg := ⟨false, 0, 0, 0, false, true, 0, 0, false, false⟩
def Dbg.reset : Dbg := ⟨false, 0, 0⟩
def OtpCtl.reset : OtpCtl := ⟨0, [], 0, []⟩
def Plinth.reset : Plinth := ⟨true, 0, false, 0, 0, 0, 0, 0, false, Vector.replicate 4 [], none⟩
def Port.reset : Port := ⟨false, 0, 0, false, false, false, 0, 0, [], 0, false, 0, [], [], 0, 0⟩
def Sched.reset : Sched := ⟨0x10000, 0, 0, 0, 0⟩
def Ptm.reset : Ptm :=
  ⟨0, 0, 0, none, 0, 0, 0, none, [], Vector.replicate 8 Sched.reset,
    #v[0x05180A00, 0x27100014, 0, 0, 0, 0, 0, 0, 0x10000, 0, 0, 100], Vector.replicate 8 Sched.reset⟩
def Report.reset : Report := ⟨0, 0, 0, 0, 0, 0, 0, 0, 0, 0, 0, 0, 0, 0, false, 0, 0, 0, false, 0, true, 0, 0, 0, 0⟩
def TlmView.reset : TlmView :=
  ⟨0, 0, 0, -32768, -32768, -32768, 32767, -32768, 32767, -32768, 32767, -32768⟩
def Tlm.reset : Tlm :=
  ⟨false, 0, 0, 100, 0, 0, 0, true, 0, 0, 0, 0, 0, 0, 0, 0, 0, none, 0, [], none, 0, false, false, false, []⟩
def LfCap.reset : LfCap := ⟨List.replicate 16 0, false, false, 0, 0⟩
/-- A lane at reset: SAFE, a channel of width 1 (R17), no program. -/
def Lane.reset : Lane :=
  { st := .safe, modu := Modu.reset, health := Health.reset, chan := Chan.reset, meas := Meas.reset, eng := Eng.reset,
    chg := Chg.reset
    , rep := Report.reset, view := TlmView.reset, est := Est.reset, swp := Sweep.reset
  }

/-- The machine in its power-on reset, the internal supplies up (t0 of R84): every register at its reset value, `RST.CAUSE`
showing the POR (R89), memories empty, and the OTP array of a TK864-G in lifecycle TEST whose FEAT and
TRIM words are programmed and not finalised (assumption 1). -/
def State.reset : State :=
  { regs := [(0x22C, 1)], stage := [], arms := [], latches := [], mem := [], store := [],
    time := ⟨0, 0, 0⟩, hif := Hif.reset, psq := Psq.reset, rails := Vector.replicate 16 Rail.reset, clk := Clk.reset,
    rst := Rst.reset, pins := Pins.reset, mref := Mref.reset, lanes := Vector.replicate 64 Lane.reset,
    otp := [(0x0D9, .blown 5000000), (0x0DC, .blown 0xAC19BA), (0x0DD, .blown 0xB17A08), (0x0DE, .blown 0xC19AF2),
      (0x0DF, .blown 0x86679A), (0x0E0, .blown 0x81074C), (0x0E1, .blown 0x86679A), (0x148, .blown 0x703),
      (0x1DA, .blown 0xFF)],
    shadow := Shadow.reset, link := LinkCfg.reset, outbox := [], recLatches := [], evr := Evr.reset, cal := Cal.reset,
    tlm := Tlm.reset, lf := Vector.replicate 64 LfCap.reset, estb := EstBlk.reset,
    bus := Bus.reset, efu := Efu.reset, thm := Thm.reset, core := CoreSt.reset, wdg := Wdg.reset, dbg := Dbg.reset, otpc := OtpCtl.reset, pl := Plinth.reset,
    ports := Vector.replicate 4 Port.reset, rxq := [], ptm := Ptm.reset, rel := [],
    pending := [], free := 0 }

end Sys2Proof.Machine
end

