-- ==== Sys2Proof/Machine/Ops.lean ====
section
/-!
DEFINITION. Sys2Proof/Machine/Ops.lean: the named operations over registers, lanes and memories.

Every chapter reads and writes the machine through these.  A register is one word of the register store; a field is
read and written through its `Fld`.
-/

namespace Sys2Proof.Machine

/-! ### Registers -/

/-- The active value of the register at byte address `a`. -/
def State.rd (s : State) (a : Nat) : Word := sparseGet resetWord s.regs a

/-- Sets the active value of the register at byte address `a`. -/
def State.wr (s : State) (a : Nat) (v : Word) : State := { s with regs := sparseSet resetWord s.regs a v }

/-- The `w` bits of `x` from bit `lo` up. -/
def bitsOf (x lo w : Nat) : Nat := x / 2 ^ lo % 2 ^ w

/-- `x` with its `w` bits from `lo` up replaced by `v`. -/
def putBits (x lo w v : Nat) : Nat := x - bitsOf x lo w * 2 ^ lo + v % 2 ^ w * 2 ^ lo

/-- Bit `i` of `x`. -/
def bit (x i : Nat) : Bool := x.testBit i

/-- The number a `w`-bit two's-complement code stands for (R9). -/
def signed (w x : Nat) : Int := if 2 * x < 2 ^ w then (x : Int) else (x : Int) - (2 ^ w : Nat)

/-- The `w`-bit two's-complement code of `x`. -/
def unsigned (w : Nat) (x : Int) : Nat := (x % (2 ^ w : Nat)).toNat

/-- A field's active value. -/
def State.get (s : State) (f : Fld) : Nat := bitsOf (s.rd f.addr).toNat f.lo f.w

/-- A field's active value as a signed number (R9). -/
def State.getI (s : State) (f : Fld) : Int := signed f.w (s.get f)

/-- A one-bit field. -/
def State.flag (s : State) (f : Fld) : Bool := s.get f == 1

/-- Sets a field's active value, keeping the register's other bits. -/
def State.put (s : State) (f : Fld) (v : Nat) : State :=
  s.wr f.addr (BitVec.ofNat 32 (putBits (s.rd f.addr).toNat f.lo f.w v))

/-- Sets a signed field. -/
def State.putI (s : State) (f : Fld) (v : Int) : State := s.put f (unsigned f.w v)

/-- Sets a one-bit field. -/
def State.putB (s : State) (f : Fld) (b : Bool) : State := s.put f (if b then 1 else 0)

/-- Adds one to a counter field that stops at its largest value, unless it is frozen. -/
def State.count (s : State) (frz : Bool) (f : Fld) : State :=
  if frz then s else s.put f (min (s.get f + 1) (2 ^ f.w - 1))

/-- Adds `n` to a counter field that wraps. -/
def State.countMod (s : State) (f : Fld) (n : Nat) : State := s.put f (s.get f + n)

/-- `PCTL.FRZ` of a page (R103). -/
def State.frz (s : State) (page : Nat) : Bool := bit (s.rd (page * 256 + 8)).toNat 1

/-- A field of 64 lane bits spread over two registers: bit `l` set. -/
def State.setLaneBit (s : State) (lo hi : Nat) (l : Nat) : State :=
  let a := if l < 32 then lo else hi
  s.wr a (s.rd a ||| BitVec.ofNat 32 (2 ^ (l % 32)))

/-- The 64 lane bits of two registers as one number. -/
def State.laneBits (s : State) (lo hi : Nat) : Nat := (s.rd lo).toNat + (s.rd hi).toNat * 2 ^ 32

/-! ### Staged values (R108, R109) -/

/-- What a register with no staged value stages: nothing. -/
def stageDflt : Nat → Option Staged := fun _ => none

/-- The staged word of a register, if one waits for a commit. -/
def State.staged (s : State) (a : Nat) : Option Staged := sparseGet stageDflt s.stage a

/-- Replaces or drops a register's staged word. -/
def State.setStaged (s : State) (a : Nat) (x : Option Staged) : State :=
  { s with stage := sparseSet stageDflt s.stage a x }

/-- Sets a field in the active and in the staged value (R168). -/
def State.putBoth (s : State) (f : Fld) (v : Nat) : State :=
  let s1 := s.put f v
  match s1.staged f.addr with
  | none => s1
  | some x => s1.setStaged f.addr (some { x with val := BitVec.ofNat 32 (putBits x.val.toNat f.lo f.w v) })

/-- An address belongs to page `p`. -/
def inPage (p a : Nat) : Bool := a / 256 == p

/-- Drops the staged values of a page, and what commits armed from it (R102, R116). -/
def State.dropStage (s : State) (p : Nat) : State :=
  { s with
    stage := sparseKeep (fun a => !inPage p a) s.stage
    arms := s.arms.map (fun x => { x with
      vals := x.vals.filter (fun v => !inPage p v.1)
      dropped := p :: x.dropped }) }

/-! ### Lanes -/

/-- Lane `l`; a number past 63 names no lane and reads a lane at reset. -/
def State.lane (s : State) (l : Nat) : Lane := s.lanes.toList.getD l Lane.reset

/-- Replaces lane `l`. -/
def State.setLane (s : State) (l : Nat) (x : Lane) : State := { s with lanes := s.lanes.setIfInBounds l x }

/-- Applies `f` to lane `l`. -/
def State.modLane (s : State) (l : Nat) (f : Lane → Lane) : State := s.setLane l (f (s.lane l))

/-- Marks flags of the frame in hand for the sweep window of a channel that the frame belongs to (R326). -/
def State.markWindow (s : State) (l flags : Nat) : State :=
  s.modLane l (fun x => { x with swp := { x.swp with marks := x.swp.marks ||| flags } })

/-- Sets flags of the sweep window that the sample latched at this boundary belongs to (R326). -/
def State.markSample (s : State) (l flags : Nat) : State :=
  s.modLane l (fun x => { x with swp := { x.swp with flags := x.swp.flags ||| flags } })

/-- Applies `f` for each of `xs` in order. -/
def forAll {α : Type} (xs : List α) (f : State → α → State) (s : State) : State := xs.foldl f s

/-- The 64 lane numbers. -/
def laneNos : List Nat := List.range 64

/-- A lane that the ordering code enables (R1, R2). -/
def State.enabled (s : State) (l : Nat) : Bool := l < s.shadow.lanes

/-- The enabled lanes in ascending order. -/
def State.enabledLanes (s : State) : List Nat := laneNos.filter s.enabled

/-- The lead of lane `l` in the grouping in force (R164). -/
def State.leadOf (s : State) (l : Nat) : Nat := s.get (LANE_LSTAT_LEADLN l)

/-- The width of the group of lane `l` in force (R164). -/
def State.widthOf (s : State) (l : Nat) : Nat := 2 ^ s.get (LANE_LSTAT_W l)

/-- Lane `l` leads its channel. -/
def State.isLead (s : State) (l : Nat) : Bool := s.leadOf l == l

/-- The lanes of the channel that lane `lead` leads. -/
def State.members (s : State) (lead : Nat) : List Nat := (List.range (s.widthOf lead)).map (lead + ·)

/-- The lanes of the channel that are not shed. -/
def State.healthy (s : State) (lead : Nat) : List Nat :=
  (s.members lead).filter (fun n => !s.flag (LANE_LSTAT_SHED n))

/-- The leads of the enabled channels, ascending. -/
def State.leads (s : State) : List Nat := s.enabledLanes.filter s.isLead

/-- The bank of a lane (R191). -/
def bankOf (l : Nat) : Nat := l / 8

/-- The bank of lane `l` is paused in this frame (R23). -/
def State.bankPaused (s : State) (l : Nat) : Bool := bit s.pins.paused (bankOf l)

/-- Every enabled lane is in SAFE (R150). -/
def State.allSafe (s : State) : Bool := s.enabledLanes.all (fun l => (s.lane l).st == .safe || (s.lane l).st == .shed)

/-! ### Time -/

/-- The frame count (R19). -/
def State.frame (s : State) : Nat := s.time.ptime / 10000

/-- The frame by local time, which a step of plant time does not renumber (R525). -/
def State.localFrame (s : State) : Nat := s.time.loc / 10000

/-- CLK_SYS runs and the device is out of reset: registers and frame-scheduled work are alive (R84, R92). -/
def State.running (s : State) : Bool :=
  !s.rst.inReset && s.clk.pllOn &&
    !(s.psq.st == .lastgasp || s.psq.st == .powerless || s.psq.st == .intUp || s.psq.st == .intDown || s.psq.st == .intLatched)

/-- The device is powered and out of reset, in DEEP_SLEEP or not (R92). -/
def State.alive (s : State) : Bool := !s.rst.inReset && !(s.psq.st == .powerless)

/-- The mode that `SYS.MODE.CUR` reports (R91). -/
def State.mode (s : State) : Mode :=
  match s.get SYS_MODE_CUR with
  | 0 => .run
  | 2 => .deepSleep
  | _ => .standby

/-- The device is in DEEP_SLEEP, powered and not in the last gasp (R92). -/
def State.asleep (s : State) : Bool := s.alive && s.psq.st != .lastgasp && s.mode == .deepSleep

/-- A wake source without a level of its own was active in DEEP_SLEEP (R94). -/
def State.wakeMark (s : State) (src : Nat) : State :=
  if s.asleep then { s with rst := { s.rst with wake := s.rst.wake ||| 2 ^ src } } else s

def Mode.code : Mode → Nat
  | .run => 0
  | .standby => 1
  | .deepSleep => 2

/-- A free value: the next number, and the machine with that number used up. -/
def State.draw (s : State) : Nat × State := (s.free, { s with free := s.free + 1 })

/-! ### Memories (R7, R27) -/

/-- What an unlisted byte reads as: memories are zero-filled at the release from reset (R84). -/
def memDflt : Nat → Byte := fun _ => 0

/-- The form of a byte memory: addresses rising, no byte listed that an unlisted address reads as. -/
def Memory.wf (m : List Host.Cell) : Bool := sparseWf memDflt m

/-- The byte at a device-internal address. -/
def State.byte (s : State) (a : Nat) : Byte := sparseGet memDflt s.mem a

/-- The little-endian word at a device-internal address (R7). -/
def readWordOf (m : List Host.Cell) (a : Nat) : Word :=
  BitVec.ofNat 32 ((sparseGet memDflt m a).toNat + (sparseGet memDflt m (a + 1)).toNat * 2 ^ 8
    + (sparseGet memDflt m (a + 2)).toNat * 2 ^ 16 + (sparseGet memDflt m (a + 3)).toNat * 2 ^ 24)

/-- Stores a word little-endian. -/
def writeWordOf (m : List Host.Cell) (a : Nat) (v : Word) : List Host.Cell :=
  let b (i : Nat) : Byte := BitVec.ofNat 8 (bitsOf v.toNat (8 * i) 8)
  sparseSet memDflt (sparseSet memDflt (sparseSet memDflt (sparseSet memDflt m a (b 0)) (a + 1) (b 1)) (a + 2) (b 2))
    (a + 3) (b 3)

/-- The word of the device-internal memories at `a`. -/
def State.memWord (s : State) (a : Nat) : Word := readWordOf s.mem a

/-- Stores a word of the device-internal memories. -/
def State.setMemWord (s : State) (a : Nat) (v : Word) : State := { s with mem := writeWordOf s.mem a v }

/-- `n` words from `a` up. -/
def State.memWords (s : State) (a n : Nat) : List Word := (List.range n).map (fun i => s.memWord (a + 4 * i))

/-- The bits of word `k` of a step record that are not reserved, for a record with first word `w0` (R8, R227, R254, R317); a table
record keeps words 1 to 7 whole (R551). -/
def recordMask (w0 k : Nat) : Word :=
  if k = 0 then 0xFF1FFFFF
  else if w0 % 256 = 0 ∧ bitsOf w0 8 13 = 0x1FFF then 0xFFFFFFFF
  else if k = 3 then 0x17FFFFFF
  else if k = 4 ∧ w0 % 16 = 7 then 0xFFFF1FFF
  else if k = 2 ∧ w0 % 16 = 9 then 0x1FFF0003
  else 0xFFFFFFFF

/-- A word of recipe memory as the engine and a reader see it: reserved bits of its record read zero (R8, R225). -/
def State.recipeWord (s : State) (a : Nat) : Word := s.memWord a &&& recordMask (s.memWord (a / 32 * 32)).toNat (a % 32 / 4)

/-- The bits of a word of the OCV range that are not reserved (R8, R295). -/
def ocvMask (a : Nat) : Word :=
  let o := a % 0x800
  if o = 0 ∨ o = 0x110 then 0x0000FFFF else if o = 8 ∨ o = 12 then 0 else 0xFFFFFFFF

/-- Stores words from `a` up. -/
def writeWordsOf (m : List Host.Cell) : Nat → List Word → List Host.Cell
  | _, [] => m
  | a, w :: ws => writeWordsOf (writeWordOf m a w) (a + 4) ws

/-- Stores words of the device-internal memories from `a` up. -/
def State.setMemWords (s : State) (a : Nat) (ws : List Word) : State := { s with mem := writeWordsOf s.mem a ws }

/-- The bytes of words, little-endian (R7). -/
def bytesOf (ws : List Word) : List Byte :=
  ws.flatMap (fun w => (List.range 4).map (fun i => BitVec.ofNat 8 (bitsOf w.toNat (8 * i) 8)))

/-! ### Numbers -/

/-- `x` limited to `lo` to `hi`. -/
def clampI (lo hi x : Int) : Int := max lo (min hi x)

/-- Division rounded to the nearest whole number, halves up (R137). -/
def divRound (n d : Int) : Int := if d = 0 then 0 else (2 * n + d) / (2 * d)

/-- A quotient rounded to nearest, halves away from zero, for a positive divisor (R327, R342). -/
def divAway (n d : Int) : Int := if n < 0 then -((2 * -n + d) / (2 * d)) else (2 * n + d) / (2 * d)

/-- Division truncated toward zero; 0 for a zero divisor. -/
def divTrunc (n d : Int) : Int := Int.tdiv n d

/-- Division rounded up, for a positive divisor. -/
def divCeil (n d : Nat) : Nat := if d = 0 then 0 else (n + d - 1) / d

/-- The absolute value. -/
def absI (x : Int) : Int := (x.natAbs : Int)

/-- Saturation to a `w`-bit signed format. -/
def satI (w : Nat) (x : Int) : Int := clampI (-(2 ^ (w - 1) : Nat)) ((2 ^ (w - 1) : Nat) - 1) x

/-! ### Check codes -/

/-- One bit step of CRC-8 with polynomial 0x07 (R124). -/
def crc8Step (c : Nat) : Nat := if c.testBit 7 then (c * 2 % 256) ^^^ 0x07 else c * 2

/-- CRC-8 over one more byte. -/
def crc8Byte (c : Nat) (b : Byte) : Nat :=
  (List.range 8).foldl (fun x _ => crc8Step x) (c ^^^ b.toNat)

/-- CRC-8 of R124 over bytes in the order sent. -/
def crc8 (bs : List Byte) : Nat := bs.foldl crc8Byte 0

/-- One bit step of the reflected CRC-32 with the IEEE 802.3 polynomial (R296). -/
def crc32Step (c : Nat) : Nat := if c % 2 = 1 then (c / 2) ^^^ 0xEDB88320 else c / 2

/-- CRC-32 over one more byte. -/
def crc32Byte (c : Nat) (b : Byte) : Nat :=
  (List.range 8).foldl (fun x _ => crc32Step x) (c ^^^ b.toNat)

/-- The CRC-32 of R296. -/
def crc32 (bs : List Byte) : Nat := (bs.foldl crc32Byte 0xFFFFFFFF) ^^^ 0xFFFFFFFF

/-- XOR of bytes (R227). -/
def xorBytes (bs : List Byte) : Nat := bs.foldl (fun x b => x ^^^ b.toNat) 0

end Sys2Proof.Machine
end

