-- ==== Sys2Proof/Machine/LinkRoute.lean ====
section
/-!
DEFINITION. Sys2Proof/Machine/LinkRoute.lean: addresses, ring positions and the route of a packet (chapter 22).
-/

namespace Sys2Proof.Machine

/-! ### Addresses and positions (R13, R493, R494) -/

def addrDev (a : Nat) : Nat := bitsOf a 0 6
def addrShelf (a : Nat) : Nat := bitsOf a 6 8
def addrZone (a : Nat) : Nat := bitsOf a 14 4

/-- The node of this device: class DEVICE and the address in force (R493). -/
def State.node (s : State) : Nat := s.link.addr

/-- The position of this device on its shelf ring, or of a shelf head on its zone ring (R494). -/
def State.ringPos (s : State) (zone : Bool) : Nat :=
  if zone then addrShelf s.link.addr + 1 else addrDev s.link.addr + 1

/-- The port that leaves toward position `q` from position `p` on a ring of `m` members: forward when twice the forward distance is
at most `m`, and while `m` is 0 (R504, R470). -/
def ringPort (zone : Bool) (m p q : Nat) : Nat :=
  let base := if zone then 2 else 0
  let fwd := (q + (m - p % max 1 m)) % max 1 m
  if m = 0 ∨ 2 * fwd ≤ m then base + 1 else base

/-- The port toward a position of the shelf ring or of the zone ring. -/
def State.toward (s : State) (zone : Bool) (q : Nat) : Nat :=
  ringPort zone (if zone then s.link.zmem else s.link.smem) (s.ringPos zone) q

/-- The route of a unicast packet that this device originates or that comes from the shelf ring: the port, or none where the shelf
head finds no way (R504). -/
def State.route (s : State) (node : Nat) : Option Nat :=
  let k := s.link
  let c := bitsOf node 18 2
  let d := node % 2 ^ 18
  let zone := addrZone d == addrZone k.addr
  if c < 2 ∧ zone ∧ addrShelf d = addrShelf k.addr then
    some (s.toward false (if c = 1 then 0 else addrDev d + 1))
  else if !k.shead then some (s.toward false k.hpos)
  else if c = 2 ∧ zone then some (s.toward true 0)
  else if c < 2 ∧ zone then
    if k.zmem ≠ 0 ∧ k.zmem - 1 ≤ addrShelf d then none else some (s.toward true (addrShelf d + 1))
  else if k.pcpos = 0 then none else some (s.toward true k.pcpos)

/-! ### Sending (R504, R505) -/

/-- A packet with every field zero but TTL, which a requester sets to 255 (R502). -/
def blankPacket : Packet :=
  ⟨0, false, false, 0, 0, false, 255, 0, 0, 0, 0, false, 0, 0, 0, [], false⟩

/-- A packet waits to leave on a port. -/
def State.enqueue (s : State) (p : Packet) (port : Nat) (from_ : Option (Nat × Nat)) : State :=
  { s with outbox := s.outbox ++ [⟨p, port, from_⟩] }

/-- The scope of a multicast (R497). -/
def Packet.scope (p : Sys2Proof.Packet) : Nat := bitsOf p.w1.toNat 24 2

/-- A multicast is placed on a ring, forward, from this member (R504). -/
def State.placeOnRing (s : State) (p : Packet) (zone : Bool) (from_ : Option (Nat × Nat)) : State :=
  s.enqueue { p with ipos := BitVec.ofNat 9 (s.ringPos zone), passed := false, wrapped := false } (if zone then 3 else 1) from_

/-- Sends a packet of the device's own (R505): a multicast on its shelf ring, and from a shelf head on its zone ring too when
the scope exceeds the shelf; a unicast by its route. -/
def State.send (s : State) (p : Packet) : State :=
  let p := { p with src := BitVec.ofNat 20 s.node }
  if p.mc then
    let t := s.placeOnRing p false none
    if s.link.shead && Packet.scope p != 0 then t.placeOnRing p true none else t
  else match s.route (p.w1.toNat % 2 ^ 20) with
    | some x => s.enqueue p x none
    | none => s

end Sys2Proof.Machine
end

