-- ==== Sys2Proof/Machine/Flags.lean ====
section
/-!
DEFINITION. Sys2Proof/Machine/Flags.lean: status words, sticky events, interrupt and fault lines, capture latches.

Setting an event is ONE operation, `State.raise`: it sets PEVT bits, starts a run in PFIRST (R106), sends the link
EVENT messages that PIRQ routes (R105, R506) and takes the recorder's capture latch (R414 to R417).
-/

namespace Sys2Proof.Machine

/-! ### Pages -/

def pageSYS := 0x00
def pageCLK := 0x01
def pageRST := 0x02
def pagePSQ := 0x03
def pageSUP := 0x04
def pageTHM := 0x05
def pageOTP := 0x06
def pageWDG := 0x07
def pageREC := 0x08
def pageRTC := 0x09
def pageEFU := 0x0A
def pageBUS := 0x0B
def pageCAL := 0x0C
def pageEST := 0x0D
def pageEIS := 0x0E
def pageTLM := 0x0F
def pageHIF := 0x10
def pageULK (x : Nat) := 0x11 + x
def pagePTM := 0x15
def pageCORE := 0x16
def pageDBG := 0x17
def pageRCP := 0x18
def pageLANE (l : Nat) := 0x40 + l

/-- A page that holds a block and that the ordering code keeps (R2, R3, R28, R29). -/
def State.present (s : State) (p : Nat) : Bool :=
  if p = 0x0E then s.shadow.eis
  else p ≤ 0x18 || (0x40 ≤ p && p < 0x40 + s.shadow.lanes)

/-- The pages that can hold events. -/
def allPages : List Nat := List.range 0x19 ++ (List.range 64).map (0x40 + ·)

/-- PEVT of a page. -/
def State.pevt (s : State) (p : Nat) : Nat := (s.rd (p * 256 + 0x10)).toNat

/-- PIRQ of a page. -/
def State.pirq (s : State) (p : Nat) : Nat := (s.rd (p * 256 + 0x14)).toNat

/-- Bit 15 of `SYS.PEVT`: any other page has a PEVT bit set (R132). -/
def State.otherEvents (s : State) : Bool :=
  allPages.any (fun p => p != 0 && s.present p && s.pevt p != 0)

/-- PEVT as a read returns it. -/
def State.pevtRead (s : State) (p : Nat) : Nat :=
  if p = 0 then s.pevt 0 % 0x8000 + (if s.otherEvents then 0x8000 else 0) else s.pevt p

/-- A page that holds IRQ_N low (R126). -/
def State.pageIrq (s : State) (p : Nat) : Bool :=
  s.present p && (s.pevtRead p &&& (s.pirq p % 0x10000)) != 0

/-- IRQ_N is asserted (R126); in reset it is released (R41). -/
def State.irqN (s : State) : Bool := !s.rst.inReset && s.flag SYS_IRQCTL_GEN && allPages.any s.pageIrq

/-- FLT_N is asserted (R127): in reset, in STANDBY and DEEP_SLEEP, and for enabled fault sources. -/
def State.fltN (s : State) : Bool :=
  s.rst.inReset || s.mode != .run || (s.rd SYS_FLTSRC_LANE_TRIP.addr &&& s.rd SYS_FLTEN_EN.addr) != 0

/-- The event summary of 32 pages from `base` (R131). -/
def evsum (q : Nat → Bool) (base : Nat) : Nat :=
  (List.range 32).foldl (fun x i => if q (base + i) then x + 2 ^ i else x) 0

/-- The number of lanes of a 64-bit mask that are set. -/
def popcount (n m : Nat) : Nat := ((List.range n).filter (fun i => m.testBit i)).length

/-- Programs of leads in a given set of engine states (R252). -/
def State.progMask (s : State) (q : ESt → Bool) : Nat :=
  s.leads.foldl (fun x l => if q (s.lane l).eng.st then x + 2 ^ l else x) 0

/-- STARTING to PAUSED (R252). -/
def ESt.running : ESt → Bool
  | .starting | .run | .barrier | .paused => true
  | _ => false

/-- Code of a lane state in PSTAT (R189). -/
def LaneSt.code : LaneSt → Nat
  | .safe => 0
  | .closed => 1
  | .idle => 2
  | .switching => 3
  | .brake => 4
  | .shed => 5

/-- Live status of a page (PSTAT).  Pages whose chapter gives no field read the stored word. -/
def State.pstat (s : State) (p : Nat) : Nat :=
  if 0x40 ≤ p then
    (s.lane (p - 0x40)).st.code + (if s.isLead (p - 0x40) then 8 else 0)
  else if 0x11 ≤ p ∧ p ≤ 0x14 then
    s.get (ULK_STATE_ST (p - 0x11)) + (if s.flag (ULK_STATE_SIGDET (p - 0x11)) then 8 else 0)
  else match p with
    | 0x00 => (if s.pins.safeIn then 1 else 0) + (if s.irqN then 2 else 0) + (if s.fltN then 4 else 0)
        + (if s.arms.isEmpty then 0 else 8)
    | 0x05 => (List.range 8).foldl (fun x b => if bitsOf (s.rd THM_LEVEL_LVL.addr).toNat (4 * b) 4 = 0 then x else x + 2 ^ b) 0
        + (if s.flag THM_TSDSTAT_LATCHED then 256 else 0)
        + (if (List.range 9).any (fun k => s.flag (THM_TEMP_FAULT k)) then 512 else 0)
    | 0x06 => (if s.flag OTP_PGMSTAT_BUSY then 1 else 0) + (if s.pins.vqps then 2 else 0) + (if s.flag OTP_RDSTAT_BUSY then 4 else 0)
    | 0x07 =>
        let c := s.get WDG_COUNT_C
        (if s.wdg.on ∧ s.wdg.opens ≤ c ∧ c < s.wdg.closes then 1 else 0) + (if s.wdg.first then 2 else 0)
          + (if s.wdg.t520 ∧ s.flag DBG_STAT_HALTED then 4 else 0) + (if s.flag WDG_CTL_LOCK then 8 else 0)
          + (if s.shadow.wdiSrc then 16 else 0)
    | 0x08 => (if s.flag REC_RSTAT_FLUSHING then 1 else 0) + (if s.flag REC_RSTAT_STOREOK then 2 else 0)
    | 0x09 => (if s.pl.wr.isSome then 1 else 0) + (if s.flag RTC_PLSTAT_ARMED then 2 else 0) + (if s.pl.vbak then 4 else 0)
    | 0x0A => s.get (EFU_FSTAT_ST 0) + s.get (EFU_FSTAT_ST 1) * 16 + s.get (EFU_FSTAT_BLK 0) * 256
        + s.get (EFU_FSTAT_BLK 1) * 512 + (if s.get (EFU_FSTAT_ST 0) = 3 ∨ s.get (EFU_FSTAT_ST 1) = 3 then 1024 else 0)
    | 0x0B =>
        let on := s.get (EFU_FSTAT_ST 0) = 3 ∨ s.get (EFU_FSTAT_ST 1) = 3
        (s.rd 0xB0C).toNat % 16 + (if on then 16 else 0) + (if on ∧ s.flag BUS_CFG_EXPEN then 32 else 0)
    | 0x0D => s.get EST_TBLSTAT_VALID + (if s.flag EST_WBSTAT_BUSY then 256 else 0)
    | 0x0E => (s.leads.filter (fun l => s.flag (LANE_EISSTAT_RUN l))).length
    | 0x0F =>
        let nb := (s.tlm.start / s.tlm.per + 1) * s.tlm.per
        (if s.tlm.on ∧ nb < s.frame then 1 else 0) + (if s.tlm.catchup then 2 else 0) + (if s.tlm.drain.isEmpty then 0 else 4)
          + s.tlm.half * 8
    | 0x15 => s.get PTM_STAT_ST
    | 0x17 => s.get DBG_STAT_EN
    | 0x18 => popcount 64 (s.progMask ESt.running) + popcount 64 (s.progMask (· == .barrier)) * 256
    | _ => (s.rd (p * 256 + 0x0C)).toNat

/-! ### The recorder's capture latch -/

/-- The PEVT bits of a page whose records are FAULT records (R415). -/
def faultBits (p : Nat) : Nat :=
  if 0x40 ≤ p then 0x0BF0
  else match p with
    | 0x00 => 0x04 | 0x03 => 0x0C | 0x04 => 0x1B | 0x05 => 0x18 | 0x06 => 0x03 | 0x0A => 0x0787
    | 0x07 => 0x04 | 0x01 => 0x05 | 0x0C => 0x14 | 0x0F => 0x40 | 0x08 => 0x10
    | _ => 0

/-- The bits of newly set events that raise a record (R414): the page is recorded, LANE pages only LANEBITS, REC never its
bits 0 and 8. -/
def State.recBits (s : State) (p new : Nat) : Nat :=
  let en := if p < 0x20 then bit (s.rd REC_RECEN0_PAGES.addr).toNat p
    else if p < 0x60 then bit (s.rd REC_RECEN1_PAGES.addr).toNat (p - 0x40)
    else bit (s.rd REC_RECEN2_PAGES.addr).toNat (p - 0x60)
  if !en then 0
  else if 0x40 ≤ p then new &&& s.get REC_LANEBITS_BITS
  else if p = 0x08 then new &&& 0xFEFE
  else new

/-- The detail word of an EVENT or FAULT record (R417). -/
def State.recDetail (s : State) (p new : Nat) : Nat :=
  let w (a : Nat) : Nat := (s.rd a).toNat
  if 0x40 ≤ p then w (p * 256 + 0x64)
  else match p with
    | 0x0A => if new % 0x80 ≠ 0 then w 0xA34 else if new / 0x100 ≠ 0 then w 0xA74 else w 0xA34
    | 0x03 => w 0x350 | 0x04 => w 0x4E4 | 0x05 => w 0x568 | 0x07 => w 0x748 | 0x01 => w 0x124 | 0x0C => w 0xC68
    | _ => 0

/-- A latch with the snapshot of R417 taken now. -/
def State.newLatch (s : State) (p typ new : Nat) (data : List Nat) : RecLatch :=
  { page := p, typ := typ, new := new, pevt := (if typ ≤ 2 then s.pevtRead p else 0),
    pstat := (if typ ≤ 2 then s.pstat p else 0), frame := s.frame % 2 ^ 32, ptime := s.time.ptime % 2 ^ 64, data := data,
    optime := s.get REC_OPTIME_S, opfrac := s.get REC_PCYC_OPFRAC, pcyc := s.get REC_PCYC_PCYC, merge := false,
    defer := s.mode == .deepSleep, noref := s.get PTM_STAT_ST != 2 }

/-- Inserts a latch in ascending page order, or merges new bits into the page's waiting latch (R416). -/
def insertLatch (x : RecLatch) : List RecLatch → List RecLatch
  | [] => [x]
  | y :: ys =>
    if y.page = x.page ∧ x.typ ≤ 2 ∧ y.typ ≤ 2 then
      { y with new := y.new ||| x.new, merge := true, typ := max y.typ x.typ } :: ys
    else if x.page < y.page then x :: y :: ys
    else y :: insertLatch x ys

/-- Takes the capture latch of a page for newly set bits (R414, R416). -/
def State.latchEvents (s : State) (p new : Nat) : State :=
  let bits := s.recBits p new
  if bits = 0 then s
  else
    let typ := if bits &&& faultBits p = 0 then 1 else 2
    let data := [(s.rd 0x70).toNat, (s.rd (p * 256 + 0x18)).toNat, s.recDetail p bits, (s.rd 0x28).toNat, (s.rd 0x230).toNat]
    { s with recLatches := insertLatch (s.newLatch p typ bits data) s.recLatches }

/-- Raises a record of type 0x03 to 0x07, whose PAGE is 0xFF (R414, R417). -/
def State.raiseRecord (s : State) (typ : Nat) (data : List Nat) : State :=
  { s with recLatches := insertLatch (s.newLatch 0xFF typ 0 data) s.recLatches }

/-! ### Events -/

/-- The EVENT message of one PEVT bit (R506). -/
def State.eventPacket (s : State) (p i : Nat) : Packet :=
  { blankPacket with
    typ := 9, dlen := 4, w1 := BitVec.ofNat 32 s.link.evNode,
    data := [BitVec.ofNat 32 (p + i * 256), BitVec.ofNat 32 (s.pevtRead p), BitVec.ofNat 32 s.frame, s.rd (p * 256 + 0x18)] }

/-- Sends one EVENT for each newly set bit that `PIRQ` routes, in ascending bit order (R105, R506). -/
def State.sendEvents (s : State) (p new : Nat) : State :=
  if !s.link.evEn then s
  else ((List.range 16).filter (fun i => new.testBit i && bit (s.pirq p) (16 + i))).foldl
    (fun t i => t.send (s.eventPacket p i)) s

/-- A run of events starts in PFIRST of a page, with BIT `i` (R106). -/
def State.firstEvent (s : State) (p i : Nat) : State :=
  s.wr (p * 256 + 0x18) (BitVec.ofNat 32 (s.frame % 2 ^ 24 + i * 2 ^ 24 + 2 ^ 31))

/-- The last set bit of a page is cleared: PFIRST keeps BIT and FRAME and loses VALID (R106). -/
def State.runEnds (s : State) (p : Nat) : State :=
  s.wr (p * 256 + 0x18) (BitVec.ofNat 32 ((s.rd (p * 256 + 0x18)).toNat % 2 ^ 31))

/-- The summary bit of a page's PEVT: `SYS.PEVT.PAGES` (R132). -/
def State.pagesBit (s : State) (p : Nat) : Nat := if p = 0 ∧ s.otherEvents then 0x8000 else 0

/-- After a change of the PEVT of other pages, `SYS.PEVT.PAGES`, which was `was`, follows them (R132): its rise is an event of SYS like
any other (R105, R106, R414), and its fall ends the run where no other bit of SYS is set. -/
def State.pagesEdge (s : State) (was : Bool) : State :=
  if s.otherEvents == was then s
  else if was then (if s.pevt 0 = 0 then s.runEnds 0 else s)
  else (((if s.pevt 0 = 0 then s.firstEvent 0 15 else s).latchEvents 0 0x8000).sendEvents 0 0x8000)

/-- The bits of a 16-bit word for which `q` holds. -/
def bitsWhere (q : Nat → Bool) : Nat := (List.range 16).foldl (fun x i => if q i then x + 2 ^ i else x) 0

/-- The lowest bit set of a 16-bit word. -/
def lowestBit (x : Nat) : Nat := ((List.range 16).find? (fun i => x.testBit i)).getD 0

/-- Sets bits of a page's PEVT (R104) with all that follows: PFIRST when a run starts (R106), the capture latch (R416) and
the EVENT messages (R105).  Bits set in one call are set in one CLK_SYS cycle. -/
def State.raise (s : State) (p mask : Nat) : State :=
  let old := s.pevt p
  let new := bitsWhere (fun i => mask.testBit i && !old.testBit i)
  if new = 0 then s
  else
    let was := s.otherEvents
    let s1 := s.wr (p * 256 + 0x10) (BitVec.ofNat 32 (old + new))
    let s2 := if old + s.pagesBit p = 0 then s1.firstEvent p (lowestBit new) else s1
    ((s2.latchEvents p new).sendEvents p new).pagesEdge was

/-- Sets one event bit. -/
def State.ev (s : State) (p i : Nat) : State := s.raise p (2 ^ i)

/-- Sets a bit of `SYS.FLTSRC` (R127, R131). -/
def State.flt (s : State) (i : Nat) : State := s.wr 0x70 (s.rd 0x70 ||| BitVec.ofNat 32 (2 ^ i))

/-- Clears event bits by a write of `clr`, while hardware sets `hw` in the same cycle: set wins (R104), PFIRST follows R106. -/
def State.clearEvents (s : State) (p clr hw : Nat) : State :=
  let old := s.pevt p
  let fin := bitsWhere (fun i => (old.testBit i && !clr.testBit i) || hw.testBit i)
  let new := bitsWhere (fun i => hw.testBit i && !old.testBit i)
  let was := s.otherEvents
  let s1 := s.wr (p * 256 + 0x10) (BitVec.ofNat 32 fin)
  let s2 := if new ≠ 0 ∧ (old &&& fin) + s.pagesBit p = 0 then s1.firstEvent p (lowestBit new)
    else if fin + s.pagesBit p = 0 then s1.runEnds p
    else s1
  ((s2.latchEvents p new).sendEvents p new).pagesEdge was

/-- The PEVT bits of a page are put to 0 by a reset, and `PAGES` follows. -/
def State.dropEvents (s : State) (f : State → State) : State := (f s).pagesEdge s.otherEvents

end Sys2Proof.Machine
end

