-- ==== Sys2Proof/Machine/Reference.lean ====
section
/-!
DEFINITION. Sys2Proof/Machine/Reference.lean: the modulation reference: its period, its edges and its transitions (chapter 06).

Instants are counted in taps of local time, 64 to a CLK_SYS cycle (R74), and the places of reference edges in 1/65,536 tap.
-/

namespace Sys2Proof.Machine

/-! ### Time in taps -/

/-- The start of the present CLK_SYS cycle in taps of local time (R74). -/
def State.tapsNow (s : State) : Int := (s.time.loc / 5 * 64 : Nat)

/-- The taps from the start of the present CLK_SYS cycle to the next frame boundary (R19). -/
def State.tapsToBoundary (s : State) : Int := if s.clk.due then 0 else ((2000 - s.time.cyc) * 64 : Nat)

/-! ### Edges (R143, R178) -/

/-- The reference period in whole taps. -/
def State.periodTaps (s : State) : Nat := s.mref.p16 / 65536

/-- The place of reference edge `k` in 1/65,536 tap: periods of P from the edge held, but for the one that follows it. -/
def Mref.place (m : Mref) (k : Int) : Int :=
  if k ≤ m.edgeNo then m.edge16 - (m.edgeNo - k) * m.p16 else m.edge16 + m.gap16 + (k - m.edgeNo - 1) * m.p16

/-- The number of the first reference edge at or after `x`, in 1/65,536 tap. -/
def Mref.edgeFrom (m : Mref) (x : Int) : Int :=
  if x ≤ m.edge16 then m.edgeNo - (m.edge16 - x) / m.p16
  else if x ≤ m.edge16 + m.gap16 then m.edgeNo + 1
  else m.edgeNo + 1 + -((m.edge16 + m.gap16 - x) / m.p16)

/-- The offset of lane `l` in taps (R178). -/
def State.phaseOffset (s : State) (l : Nat) : Int := divRound (s.get (LANE_PHOFF_OFF l) * s.mref.p16 : Nat) (64 * 65536)

/-- The phase edge of lane `l` that belongs to reference edge `k`, in taps: the reference edge on the nearest tap, and the lane's
offset (R143). -/
def State.phaseEdge (s : State) (l : Nat) (k : Int) : Int := divRound (s.mref.place k) 65536 + s.phaseOffset l

/-- The number of the first phase edge of lane `l` at or after tap `x`. -/
def State.phaseEdgeFrom (s : State) (l : Nat) (x : Int) : Int :=
  s.mref.edgeFrom ((x - s.phaseOffset l) * 65536 - 32768)

/-! ### The period (R151 to R154) -/

def mrInt := 0
def mrAcq := 1
def mrPull := 2
def mrLocked := 3
def mrGlide := 4

/-- The edge held becomes the last one up to now; the edge after it stays where it is. -/
def Mref.rebase (m : Mref) (now : Int) : Mref :=
  if now * 65536 < m.edge16 then m
  else
    let k := m.edgeFrom (now * 65536 + 1)
    { m with edgeNo := k - 1, edge16 := m.place (k - 1), gap16 := m.place k - m.place (k - 1) }

/-- Sets P, and the integer part that MREFSTAT shows; the period in progress keeps its length. -/
def State.setP (s : State) (p16 : Nat) : State :=
  { s with mref := { s.mref.rebase s.tapsNow with p16 := p16 } }.put PTM_MREFSTAT_PERIOD (p16 / 65536)

/-- PINT within its limits, in 1/65,536 tap (R162). -/
def State.pint16 (s : State) : Nat := max 6400 (min 64000 (s.get PTM_MREFPINT_PINT)) * 65536

/-- Condition A of R150. -/
def State.condA (s : State) : Bool := s.allSafe || s.flag SYS_STRAP_TESTACT

def State.mrTo (s : State) (st : Nat) : State := s.put PTM_MREFSTAT_ST st

/-- ACQ begins: qualifying starts (R151). -/
def State.mrEnterAcq (s : State) : State := { s with mref := { s.mref with qual := 0 } }.mrTo mrAcq

/-- SYNCDLY modulo P, in 1/65,536 tap (R152). -/
def State.syncDelay (s : State) : Int := s.get PTM_MREFDLY_SYNCDLY * 65536 % s.mref.p16

/-- Places the next reference edge at the next SYNC_IN edge plus SYNCDLY: the last counted edge, the last interval and the delay
(R151, R152). -/
def State.placeEdge (s : State) : State :=
  let m := s.mref
  let at_ : Int := (m.counted + m.lastInt) * 65536 + s.syncDelay
  let k := m.edgeFrom (at_ - m.p16 / 2) - 1
  { s with mref := { m with edgeNo := k, edge16 := m.place k, gap16 := at_ - m.place k } }

/-- LOCKED begins with the reference placed by SYNC_IN (R151, R152). -/
def State.mrLock (s : State) : State :=
  (((s.setP (s.mref.lastInt * 65536)).placeEdge).mrTo mrLocked).ev pagePTM 12

/-- The step of the glide law toward `to16` (R153). -/
def State.glideStep (s : State) (to16 : Nat) : Nat :=
  let p := s.mref.p16
  let g := max 1 (min 6 (s.get PTM_MREFCTL_GLIDE))
  let step := p * g / 65536
  if p < to16 then p + min step (to16 - p) else p - min step (p - to16)

/-- Transitions that hold whenever lanes or SYNCEN change (R151). -/
def State.mrefEval (s : State) : State :=
  let st := s.get PTM_MREFSTAT_ST
  let sync := s.flag PTM_MREFCTL_SYNCEN
  if st = mrGlide ∧ s.allSafe then
    let s := (s.setP s.pint16).mrTo mrInt
    if sync then s.mrEnterAcq else s
  else if st = mrInt then
    let s := if s.condA then s.setP s.pint16 else s
    if sync ∧ s.condA then s.mrEnterAcq else s
  else if st = mrPull ∧ s.allSafe then s.mrLock
  else if st = mrAcq ∧ 8 ≤ s.mref.qual then if s.allSafe then s.mrLock else s.mrTo mrPull
  else s

/-- The reference at a frame boundary (R151, R153, R154). -/
def State.mrefFrame (s : State) : State :=
  let s := s.mrefEval
  let st := s.get PTM_MREFSTAT_ST
  if st = mrGlide then
    let s := s.setP (s.glideStep s.pint16)
    if s.mref.p16 = s.pint16 then (s.mrTo mrInt).ev pagePTM 14 else s
  else if st = mrInt then s.setP (s.glideStep s.pint16)
  else if st = mrPull then s.setP (s.glideStep (s.mref.lastInt * 65536))
  else s

/-! ### SYNC_IN (R149 to R152, R154) -/

/-- How far a reference edge is from a counted edge plus SYNCDLY, to the nearest one, in 1/65,536 tap; positive where the reference
edge is early. -/
def State.syncDistance (s : State) : Int :=
  let x := s.mref.counted * 65536 + s.syncDelay
  x - s.mref.place (s.mref.edgeFrom (x - s.mref.p16 / 2))

/-- The second phase of a pull: the period in progress is lengthened or shortened by at most P / 4,096 (R154). -/
def State.pullStep (s : State) : State :=
  let m := s.mref.rebase s.tapsNow
  let q : Int := (m.p16 / 4096 : Nat)
  { s with mref := { m with gap16 := m.p16 + clampI (-q) q m.err } }

/-- A counted edge moves the reference (R151, R152, R154). -/
def State.syncCounted (s : State) : State :=
  let st := s.get PTM_MREFSTAT_ST
  let m := s.mref
  if st = mrLocked then (s.setP (m.lastInt * 65536)).placeEdge
  else if st = mrPull ∧ absI ((m.p16 : Int) - m.lastInt * 65536) * 65536 ≤ m.p16 then
    if absI m.err ≤ 65536 then s.mrLock else s.pullStep
  else s.mrefEval

/-- A SYNC_IN rising edge at `at_` taps of local time: whether its high and its preceding low time were both at least 50 ns (R149).
An edge that fails a test counts as no edge; one that comes too late for an interval begins a new one. -/
def State.syncEdge (s : State) (wide : Bool) (at_ : Int) : State :=
  if !s.running then s
  else
    let iv : Nat := match s.mref.stamp with
      | some x => (at_ - x).toNat
      | none => 0
    let late := s.mref.stamp.isNone || decide (64000 < iv)
    if late || decide (iv < 6400) then
      { s with mref := { s.mref with qual := 0, stamp := if late then some at_ else s.mref.stamp } }.ev pagePTM 15
    else if !wide then s.ev pagePTM 15
    else
      let s := s.mrefEval
      let last := s.mref.lastInt
      let near := 0 < last ∧ (absI ((iv : Int) - last)) * 100 ≤ last
      let s := { s with mref := { s.mref with
        qual := if near then s.mref.qual + 1 else 0
        lastInt := iv, stamp := some at_, counted := at_ } }
      let s := { s with mref := { s.mref with err := s.syncDistance } }
      let s := ((s.put PTM_SYNCPER_PER iv).countMod PTM_SYNCPER_EDGES 1).putB PTM_MREFSTAT_SYNCPRES true
      let s := if last = 0 then s else s.putI PTM_SYNCERR_ERR (satI 16 ((iv : Int) - last))
      s.syncCounted

/-- No counted edge for 2 × P (R151). -/
def State.syncLost (s : State) : State :=
  if !s.running then s
  else
    let s := s.putB PTM_MREFSTAT_SYNCPRES false
    let st := s.get PTM_MREFSTAT_ST
    if st = mrAcq then
      if s.condA then { s with mref := { s.mref with qual := 0 } } else s.mrTo mrGlide
    else if st = mrLocked ∨ st = mrPull then
      let s := s.ev pagePTM 13
      if s.condA then s.mrEnterAcq else s.mrTo mrGlide
    else s

/-- `PTM.MREFCMD.ACQ` written 1 (R150, R151, R158). -/
def State.mrefAcq (s : State) : State :=
  let st := s.get PTM_MREFSTAT_ST
  if s.flag PTM_MREFCTL_SYNCEN ∧ (st = mrInt ∨ st = mrGlide) then s.mrEnterAcq else s

/-- What a write of `PTM.MREFCTL` sets off: SYNCEN 0 leaves ACQ, PULL and LOCKED; SYNCEN 1 may acquire (R151). -/
def State.mrefCtlWritten (s : State) : State :=
  let st := s.get PTM_MREFSTAT_ST
  if !s.flag PTM_MREFCTL_SYNCEN ∧ (st = mrAcq ∨ st = mrPull ∨ st = mrLocked) then s.mrTo mrGlide
  else s.mrefEval

def execSyncEdge (high low : Bool) (at_ : Nat) (s : State) : Host.Outcome State Fault Refusal :=
  .next (s.syncEdge (high && low) (s.tapsNow + at_))

def execSyncLost (s : State) : Host.Outcome State Fault Refusal := .next s.syncLost

end Sys2Proof.Machine
end

