-- ==== Sys2Proof/Machine/Safe.lean ====
section
/-!
DEFINITION. Sys2Proof/Machine/Safe.lean: lanes and channels going to SAFE, and programs ending.

Every protective path ends here: `State.forceSafe` (R168, R170) with its last-fault captures (R350, R351), the
loss-of-control actions (R171), the stop, and the end of a program (R247, R248).
-/

namespace Sys2Proof.Machine

/-! ### Register words with typed parts -/

def ChSt.code : ChSt → Nat
  | .safe => 0 | .closing => 1 | .active => 2 | .stopping => 3 | .hold => 4 | .ramp => 5

def ESt.code : ESt → Nat
  | .idle => 0 | .starting => 1 | .run => 2 | .barrier => 3 | .paused => 4 | .ended => 5 | .faulted => 6 | .aborted => 7

def Phase.code : Phase → Nat
  | .none => 0 | .trickle => 1 | .pre => 2 | .cc => 3 | .cv => 4 | .term => 5 | .done => 6

def Zone.code : Zone → Nat
  | .cold => 0 | .cool => 1 | .normal => 2 | .warm => 3 | .hot => 4 | .invalid => 5

/-- `LANE[l].CHSTAT` as read: the state of R166 over the stored fields. -/
def State.chstatWord (s : State) (l : Nat) : Nat :=
  putBits (s.rd (LANE_CHSTAT_STATE l).addr).toNat 0 3 (s.lane l).chan.st.code

/-- `LANE[l].RSTAT` as read: engine state, loop depth and THERMAL over the stored fields (R251). -/
def State.rstatWord (s : State) (l : Nat) : Nat :=
  let x := (s.rd (LANE_RSTAT_STEP l).addr).toNat
  let x := putBits x 13 3 (s.lane l).eng.st.code
  let x := putBits x 20 3 (s.lane l).eng.loops.length
  putBits x 30 1 (if s.bankPaused l then 1 else 0)

/-- `LANE[l].CHGSTAT` as read (R278). -/
def State.chgstatWord (s : State) (l : Nat) : Nat :=
  let x := (s.rd (LANE_CHGSTAT_PHASE l).addr).toNat
  putBits (putBits x 0 3 (s.lane l).chg.phase.code) 3 3 (s.lane l).chg.zone.code

/-- The step-state word of a channel report (R341, offset 0x3C). -/
def State.stepWord (s : State) (l : Nat) : Nat :=
  s.get (LANE_RSTAT_STEP l) + (s.lane l).eng.st.code * 2 ^ 13 + s.get (LANE_RSTAT_TYPE l) * 2 ^ 16
    + (s.lane l).chg.phase.code * 2 ^ 20 + (s.lane l).chg.zone.code * 2 ^ 23 + (s.lane l).chan.st.code * 2 ^ 26

/-- Lane current and channel quantities of R172: I_CH is the sum over the lanes not shed. -/
def State.iCh (s : State) (lead : Nat) : Int :=
  (s.healthy lead).foldl (fun x n => x + (s.lane n).meas.iS) 0

/-- V_CELL of a channel, the lead lane's voltage sample in µV (R172). -/
def State.vCell (s : State) (lead : Nat) : Int := (s.lane lead).meas.vS

/-- A demand or a grant in 1/256 of 100 nA as whole mA, toward zero (R174, R279, R284). -/
def toMilliAmp (x : Int) : Int := divTrunc x 2560000

/-! ### Last-fault records (R350, R351) -/

/-- The sixteen words of a last-fault record. -/
def State.lfWords (s : State) (n cause : Nat) (origin : Bool) (seq : Nat) : List Word :=
  let lead := s.leadOf n
  let l := s.lane n
  let c := (s.lane lead).chan
  let ws : List Nat :=
    [ n + s.get (LANE_LSTAT_W n) * 64 + cause * 256 + seq % 65536 * 65536,
      s.frame % 2 ^ 32, s.time.ptime % 2 ^ 32, s.time.ptime / 2 ^ 32 % 2 ^ 32,
      unsigned 32 l.meas.vS, unsigned 32 l.meas.iS, unsigned 32 (s.vCell lead),
      unsigned 32 (toMilliAmp c.dem), unsigned 32 (toMilliAmp c.grant),
      s.get (LANE_TON_TON n) + s.get (LANE_TRIM_TRIM n) * 65536,
      unsigned 16 (l.meas.temp.getD (-32768)) + s.get (LANE_TON_BAND n) * 65536 + (if origin then 2 ^ 19 else 0)
        + s.get (LANE_LSTAT_PHCAUSE n) * 2 ^ 20 + s.get (LANE_LSTAT_OCF n) * 2 ^ 24,
      s.stepWord lead, l.st.code + (((s.pins.vbs.toList.getD (bankOf n) []).head?).map Prod.snd).getD 0 * 256, s.get REC_OPTIME_S, s.get REC_PCYC_PCYC ]
  let words := ws.map (BitVec.ofNat 32)
  words ++ [BitVec.ofNat 32 (crc32 (bytesOf words))]

/-- Captures a lane's last-fault record, or counts a trip lost while one is pending (R350). -/
def State.capture (s : State) (n cause : Nat) (origin : Bool) : State :=
  let c := s.lf.toList.getD n LfCap.reset
  if c.pend then
    { s with lf := s.lf.setIfInBounds n { c with lost := min (c.lost + 1) 255 } }.ev pageTLM 7
  else
    let seq := (c.seq + 1) % 65536
    let c := { c with words := s.lfWords n cause origin seq, pend := true, valid := true, seq := seq }
    { s with lf := s.lf.setIfInBounds n c }.ev pageTLM 6

/-! ### SAFE -/

/-- A lane in SAFE: gates and ISO low, TRIM zero (R145, R155); a shed lane stays marked. -/
def State.laneSafe (s : State) (n : Nat) : State :=
  let s := s.modLane n (fun l => { l with
    st := if s.flag (LANE_LSTAT_SHED n) then .shed else .safe
    modu := Modu.reset
    health := Health.reset })
  ((s.wr (LANE_TRIM_TRIM n).addr 0).putB (LANE_TON_SW n) false)

/-- The channel enters SAFE: its lanes go to SAFE, which the modulation reference may have waited for (R151), and RUN is cleared in
its active and staged value (R168). -/
def State.chanSafe (s : State) (lead : Nat) : State :=
  let s := ((s.members lead).foldl State.laneSafe s).mrefEval
  let s := s.modLane lead (fun l => { l with chan := { Chan.reset with tgt := l.chan.tgt }, rep := { l.rep with safed := true } })
  let s := (s.put (LANE_CHSTAT_ACTIVE lead) 0).put (LANE_DEMAND_DEMAND lead) 0
  s.putBoth (LANE_CHCTL_RUN lead) 0

/-- Marks the FAULT flag of a channel's report (R344). -/
def State.markFault (s : State) (lead : Nat) : State :=
  s.modLane lead (fun l => { l with rep := { l.rep with mark := l.rep.mark ||| 16 } })

/-- A forced SAFE of a channel (R168, R170): captures with the cause of R351 when the path counts as a trip, LANE_TRIP, and
the RESULT qualifier of R247 left for the engine.  A channel already in SAFE is left alone. -/
def State.forceSafe (s : State) (lead cause qual : Nat) (trip : Bool) (origin : Nat → Bool) : State :=
  if (s.lane lead).chan.st = .safe then s
  else
    let s := if trip then
        ((s.members lead).filter (fun n => (s.lane n).st != .shed)).foldl (fun t n => t.capture n cause (origin n)) s
      else s
    let s := (s.chanSafe lead).markFault lead
    let s := s.modLane lead (fun l => { l with
      eng := if l.eng.st.running then { l.eng with forced := qual } else l.eng })
    if trip then s.flt 0 else s

/-- Forces every channel to SAFE. -/
def State.forceAllSafe (s : State) (cause qual : Nat) (trip : Bool) : State :=
  s.leads.foldl (fun t l => t.forceSafe l cause qual trip (fun _ => false)) s

/-- Forces to SAFE every channel with a lane in a bank. -/
def State.forceBankSafe (s : State) (b cause qual : Nat) : State :=
  (s.leads.filter (fun l => bankOf l == b)).foldl (fun t l => t.forceSafe l cause qual true (fun _ => false)) s

/-! ### The end of a program (R246 to R248) -/

/-- Sets RESULT (R247). -/
def State.setResult (s : State) (l reason qual : Nat) : State :=
  ((s.put (LANE_RESULT_REASON l) reason).put (LANE_RESULT_QUAL l) qual).put (LANE_RESULT_FSTEP l) (s.get (LANE_RSTAT_STEP l))

/-- Ends the sweep of a channel that has one running (R327): RUN and SETTLE return to 0 (R332), and its results stay. -/
def State.endSweep (s : State) (l : Nat) : State :=
  if s.flag (LANE_EISSTAT_RUN l) then (s.putB (LANE_EISSTAT_RUN l) false).putB (LANE_EISSTAT_SETTLE l) false else s

/-- A CHARGE step ends: ACT returns to 0 (R263). -/
def State.endCharge (s : State) (l : Nat) : State := s.putB (LANE_CHGSTAT_ACT l) false

/-- A regulating step ends, however it does: `OCVR` is latched at the end of an OCV step (R237), the sweep and the CHARGE step end
(R324, R263). -/
def State.stepLeave (s : State) (l : Nat) : State :=
  let s := s.modLane l (fun x =>
    if x.eng.hasRef ∧ (x.eng.recd.getD 0 0).toNat % 16 = 10 then { x with eng := { x.eng with ocvr := x.meas.vP } } else x)
  (s.endSweep l).endCharge l

/-- The engine enters ENDED, FAULTED or ABORTED (R248): masks, events, and RESULT when `write` holds. -/
def State.progEnd (s : State) (l : Nat) (dest : ESt) (reason qual : Nat) (write : Bool) : State :=
  let s := if write then s.setResult l reason qual else s
  let s := s.stepLeave l
  let s := s.modLane l (fun x => { x with
    eng := { x.eng with st := dest, forced := 0, next := none, abort := 0, hasRef := false, held := [] }
    rep := if dest = .faulted then { x.rep with mark := x.rep.mark ||| 16 } else x.rep })
  let s := s.setLaneBit 0x1834 0x1838 l
  let s := if dest = .faulted then s.setLaneBit 0x183C 0x1840 l else s
  if dest = .ended then s.ev pageRCP 0 else s.ev pageRCP 1

/-! ### RUN, stop and loss of control (R168, R169, R171) -/

/-- STOPPING or RAMP begins: the demand starts from the present grant (R169). -/
def State.beginStop (s : State) (lead : Nat) (dest : ChSt) : State :=
  s.modLane lead (fun l => { l with
    chan := { l.chan with st := dest, dem := l.chan.grant, stopFrames := 0, stopDone := false } })

/-- RUN = 0 applies to a channel (R168). -/
def State.runZero (s : State) (lead : Nat) : State :=
  match (s.lane lead).chan.st with
  | .closing => s.chanSafe lead
  | .active => s.beginStop lead .stopping
  | .hold => s.beginStop lead .stopping
  | _ => s

/-- A loss-of-control cause reaches a channel (R168, R171). -/
def State.lossOfControl (s : State) (lead : Nat) : State :=
  match (s.lane lead).chan.st with
  | .safe => s
  | .closing =>
    let s := (s.ev (pageLANE lead) 10).chanSafe lead
    if (s.lane lead).eng.st = .starting then s.progEnd lead .faulted 0x0B 0 true else s
  | .active =>
    let s := s.ev (pageLANE lead) 10
    match s.get (LANE_LOCCFG_ACTION lead) with
    | 1 => s.forceSafe lead 0x0B 7 true (fun _ => false)
    | 2 => s
    | _ =>
      if s.get (LANE_LOCCFG_HOLDT lead) > 0 then
        s.modLane lead (fun l => { l with chan := { l.chan with st := .hold } })
      else
        let s := s.beginStop lead .ramp
        if (s.lane lead).eng.st.running then
          (s.progEnd lead .faulted 0x0B 0 true).put (LANE_CHCTL_RUN lead) 0
        else s
  | _ => s.ev (pageLANE lead) 10

/-- A loss-of-control cause for every channel not in SAFE (R77, R401). -/
def State.lossOfControlAll (s : State) : State := s.leads.foldl State.lossOfControl s

end Sys2Proof.Machine
end

