-- ==== Sys2Proof/Machine/Modulation.lean ====
section
/-!
DEFINITION. Sys2Proof/Machine/Modulation.lean: switching cycles, the on-time and the frequency-lock loop (chapter 06).
-/

namespace Sys2Proof.Machine

/-! ### The on-time (R135 to R138) -/

/-- Replaces the modulator of lane `l`. -/
def State.setModu (s : State) (l : Nat) (m : Modu) : State := s.modLane l (fun x => { x with modu := m })

/-- The effective dead time GH fall to GL rise in the band in force (R135). -/
def State.dtHl (s : State) (l : Nat) : Nat :=
  max (s.get (LANE_DT_DTHL l)) 64 + bitsOf (s.get (LANE_BANDDT_M l)) (6 * s.get (LANE_TON_BAND l)) 6

/-- The effective dead time GL fall to GH rise (R135). -/
def State.dtLh (s : State) (l : Nat) : Nat :=
  max (s.get (LANE_DT_DTLH l)) 64 + bitsOf (s.get (LANE_BANDDT_M l)) (6 * s.get (LANE_TON_BAND l)) 6

/-- The compensation of the band in force (R137). -/
def State.bandComp (s : State) (l : Nat) : Int :=
  signed 6 (bitsOf (s.get (LANE_BANDCOMP_C l)) (6 * s.get (LANE_TON_BAND l)) 6)

/-- T_ONmax in taps (R136). -/
def State.tonMax (s : State) (l : Nat) : Int :=
  (s.periodTaps : Int) - max (s.get (LANE_LIMITS_TOFFMIN l)) 1024 - s.dtHl l - s.dtLh l

/-- The code of a bank's latest feed-forward sample completed by `at_` taps of local time; 0 where there is none (R137). -/
def State.vbsBy (s : State) (b : Nat) (at_ : Int) : Nat :=
  (((s.pins.vbs.toList.getD b []).find? (fun e => decide ((e.1 / 5 * 64 : Nat) ≤ at_))).map Prod.snd).getD 0

/-- The code of a bank's latest feed-forward sample. -/
def State.vbsCode (s : State) (b : Nat) : Nat := (((s.pins.vbs.toList.getD b []).head?).map Prod.snd).getD 0

/-- V_BS in pV as the formulas take it: a code of 0 counts as one LSB (R138). -/
def vbsPico (code : Nat) : Int := (max 1 code : Nat) * 25000000000

/-- An on-time before and after the limits of R136: taps, clamped low, clamped high. -/
structure OnTime where
  taps : Nat
  low : Bool
  high : Bool
  deriving DecidableEq, Repr

/-- Limits a computed on-time (R136). -/
def State.limitTon (s : State) (l : Nat) (n : Int) : OnTime :=
  let lo : Int := max (s.get (LANE_LIMITS_TONMIN l)) 512
  let hi := s.tonMax l
  if n < lo then ⟨lo.toNat, true, false⟩
  else if hi < n then ⟨hi.toNat, false, true⟩
  else ⟨n.toNat, false, false⟩

/-- The on-time of a cycle of lane `l` for the V_BS code `code` (R137, R138). -/
def State.onTime (s : State) (l : Nat) (dis : Bool) (code : Nat) : OnTime :=
  let m := (s.lane l).modu
  let vbs := vbsPico code
  let trim := 65536 + s.getI (LANE_TRIM_TRIM l)
  let c := s.bandComp l
  if dis then
    s.limitTon l (divRound (((s.mref.p16 : Int) * vbs - m.nff) * trim) (vbs * 65536 * 65536) + c)
  else if (code : Int) * 25000000000 ≤ m.veff then
    let t := s.limitTon l (s.tonMax l)
    if t.low then t else { t with high := true }
  else s.limitTon l (divRound (m.nff * trim) (vbs * 65536 * 65536) + c)

/-- +1 while charging, −1 while discharging (R141). -/
def lineSign (dis : Bool) : Int := if dis then -1 else 1

/-- Half of the injected and the predicted ripple for an on-time, as a fraction in the unit of a share times a shunt (R140, R141). -/
def State.halfRipple (s : State) (l : Nat) (dis : Bool) (code ton : Nat) : Int × Int :=
  let veff := (s.lane l).modu.veff
  let r : Int := s.get (LANE_MCFG_RINJ l) + 1
  let a8 : Int := (2 ^ s.get (LANE_MCFG_INJG l) : Nat)
  let lrs := s.get (LANE_MCFG2_LRS l)
  let lr : Int := max 1 lrs
  let dv : Int := if dis then veff else vbsPico code - veff
  ((a8 * lr + (if lrs = 0 then 0 else 80 * r)) * dv * ton * 78125 * 2560, 16000000000 * r * lr)

/-- One LSB of the threshold DAC, 12.5 µV, in the unit of a share times a shunt (R139). -/
def thrLsb : Int := 2560 * 12500000

/-- The threshold code for an on-time (R139 to R141): V_TGT less half of the injected and the predicted ripple in the lane's
direction, to the nearest code, within 14 bits. -/
def State.thresholdCode (s : State) (l : Nat) (dis : Bool) (code ton : Nat) : Int :=
  let m := (s.lane l).modu
  let v : Int := (m.share + m.corr) * s.get (LANE_RSH_RSH l)
  let h := s.halfRipple l dis code ton
  satI 14 (divRound (v * h.2 - lineSign dis * h.1) (thrLsb * h.2))

/-- The threshold follows the target, in the direction of the grant, for the on-time that the lane would now take (R139, R141). -/
def State.setThreshold (s : State) (l : Nat) : State :=
  let dis := (s.lane l).modu.grDis
  let code := s.vbsCode (bankOf l)
  s.putI (LANE_THR_THR l) (s.thresholdCode l dis code (s.onTime l dis code).taps)

/-- The mean of the comparator path: the threshold in force plus half the predicted ripple, times the second of the pair, in the unit
of a share times a shunt (R141, R185). -/
def State.pathMean (s : State) (l : Nat) : Int × Int :=
  let dis := (s.lane l).modu.grDis
  let h := s.halfRipple l dis (s.vbsCode (bankOf l)) (s.get (LANE_TON_TON l))
  (s.getI (LANE_THR_THR l) * thrLsb * h.2 + lineSign dis * h.1, h.2)

/-! ### Switching cycles (R133, R134, R144, R145, R156) -/

/-- A lane's current sample in the direction of its grant, in 1/256 of 100 nA. -/
def State.alongGrant (s : State) (l : Nat) : Int :=
  let i := (s.lane l).meas.iS * 256
  if (s.lane l).modu.grDis then -i else i

/-- BRKTH (R180), in 1/256 of 100 nA. -/
def State.brkth (s : State) (l : Nat) (share : Int) : Int :=
  max (absI share / 8) ((s.get (LANE_LANELIM_ILANE l) : Int) * 25600000 / 64)

/-- Both gates low. -/
def State.gatesLow (s : State) (l : Nat) : State :=
  s.modLane l (fun x => { x with modu := { x.modu with gh := false, gl := false, pre := false, onTime := false } })

/-- A lane enters BRAKE: no trigger, the untimed switch held off (R180). -/
def State.enterBrake (s : State) (l : Nat) : State :=
  let s := s.count (s.frz (pageLANE l)) (LANE_LCNT_BRKCNT l)
  let s := s.modLane l (fun x => { x with
    st := .brake
    modu := if x.modu.onTime then x.modu else { x.modu with gh := false, gl := false } })
  s.putB (LANE_TON_SW l) false

/-- A lane that its gates may switch: active, out of its precharge, switching, or in BRAKE and tripped again (R144, R146, R147, R180). -/
def State.triggerable (s : State) (l : Nat) : Bool :=
  let m := (s.lane l).modu
  s.running && s.enabled l && !s.bankPaused l && !m.onTime && !m.pre && m.active &&
    ((s.lane l).st == .switching || (s.lane l).st == .brake)

/-- The dead time that precedes the timed switch, in the direction of the grant (R144). -/
def State.deadTime (s : State) (l : Nat) : Int := if (s.lane l).modu.grDis then s.dtHl l else s.dtLh l

/-- The window opening of the phase edge at tap `e` (R144). -/
def State.windowAt (s : State) (l : Nat) (e : Int) : Int := e - s.deadTime l - s.get (LANE_PHASE_WIN l)

/-- The number of the reference edge whose phase edge a trip at tap `trip` triggers for: the next one (R144); after a start the first
whose window opens DT_LH_eff after t1 (R146); in BRAKE the first at which the comparator has tripped (R180). -/
def State.edgeFor (s : State) (l : Nat) (trip : Int) : Int :=
  let x := s.lane l
  if x.st = .brake then s.phaseEdgeFrom l trip
  else if x.modu.first then s.phaseEdgeFrom l (x.modu.t1 + s.dtLh l + s.deadTime l + s.get (LANE_PHASE_WIN l))
  else x.modu.edge

/-- t0 of R134 (R144): the later of the trip and the window opening, not before the earliest next trigger. -/
def State.triggerAt (s : State) (l : Nat) (trip e : Int) : Int := max (max trip (s.windowAt l e)) (s.lane l).modu.t4

/-- Counts d of a cycle, limited to a quarter period, in the frame of its phase edge; an edge of an earlier frame is past its
average (R145). -/
def State.addTrip (s : State) (l : Nat) (trip e : Int) : State :=
  let q : Int := s.periodTaps / 4
  let d := clampI (-q) q (trip - (s.windowAt l e - max 8 (s.get (LANE_PHASE_LEAD l))))
  let fin := s.tapsNow + s.tapsToBoundary
  s.modLane l (fun x => { x with modu :=
    if fin ≤ e then { x.modu with dNext := x.modu.dNext + d, dNextN := x.modu.dNextN + 1 }
    else if fin - 128000 ≤ e then { x.modu with dSum := x.modu.dSum + d, dCnt := x.modu.dCnt + 1 }
    else x.modu })

/-- The driver interlock at a rising edge (R135): how long the edge is held back, and what of it counts. -/
def lockDelay : Interlock → Nat
  | .clear => 0
  | .late n => n
  | .stuck => 0

/-- The gate rises in this cycle. -/
def lockRises : Interlock → Bool
  | .stuck => false
  | _ => true

/-- The interlock held a rising edge back by more than 256 taps, or for the whole cycle (R135, R158). -/
def State.interlock (s : State) (l : Nat) (k : Interlock) : State :=
  if 256 < lockDelay k ∨ !lockRises k then (s.count (s.frz (pageLANE l)) (LANE_THR_INTLKCNT l)).ev (pageLANE l) 15 else s

/-- A bootstrap undervoltage (R156): the cycle is withheld, and the second in a row leaves both gates low; the result says
whether phase health takes the lane over. -/
def State.withholdCycle (s : State) (l : Nat) : State × Bool :=
  let again := (s.lane l).modu.withheld
  let s := (s.count (s.frz (pageLANE l)) (LANE_THR_BSTUVCNT l)).ev (pageLANE l) 12
  let s := s.modLane l (fun x => { x with modu := { x.modu with
    gh := false, gl := !again, withheld := !again, onTime := false } })
  (s, again)

/-- A triggered cycle at t0: direction, on-time, threshold, and the timed gate unless the interlock holds it low (R134, R135). -/
def State.startCycle (s : State) (l : Nat) (t0 : Int) (k : Interlock) : State :=
  let dis := (s.lane l).modu.grDis
  let code := s.vbsBy (bankOf l) (t0 - 256)
  let t := s.onTime l dis code
  let clamped := (t.low && !s.flag (LANE_TON_CLMIN l)) || (t.high && !s.flag (LANE_TON_CLMAX l))
  let t1 := t0 + s.deadTime l + lockDelay k
  let t3 := t1 + t.taps + (if dis then s.dtLh l else s.dtHl l : Nat)
  let t4 := t3 + max (s.get (LANE_LIMITS_TOFFMIN l)) 1024
  let s := (((s.put (LANE_TON_TON l) t.taps).putB (LANE_TON_TIMED l) dis).putB (LANE_TON_CLMIN l) t.low).putB (LANE_TON_CLMAX l) t.high
  let s := (s.putB (LANE_TON_SW l) true).putI (LANE_THR_THR l) (s.thresholdCode l dis code t.taps)
  let s := s.modLane l (fun x => { x with
    modu := { x.modu with
      gh := !dis && lockRises k, gl := dis && lockRises k, onTime := true, cycDis := dis, withheld := dis && x.modu.withheld
      swNow := true, t1 := t1, t4 := t4 } })
  let s := if clamped then s.ev (pageLANE l) 13 else s
  s.interlock l k

/-- A trigger (R144) for a comparator trip at tap `trip` of local time: withheld for bootstrap undervoltage while charging (R156), or a
cycle.  The result says whether phase health takes the lane over. -/
def State.switchTrigger (s : State) (l : Nat) (trip : Int) (bstLow : Bool) (k : Interlock) : State × Bool :=
  if !s.triggerable l then (s, false)
  else
    let n := s.edgeFor l trip
    let e := s.phaseEdge l n
    let t0 := s.triggerAt l trip e
    let s := (s.addTrip l trip e).modLane l (fun x => { x with
      st := .switching, modu := { x.modu with edge := n + 1, first := false } })
    if bstLow && !(s.lane l).modu.grDis then s.withholdCycle l else (s.startCycle l t0 k, false)

/-- The timed switch turns off and the untimed switch follows, unless the lane is braking, inactive, paused or stopped (R134, R147,
R180), the bootstrap is low at the rising edge of GH while discharging (R156), or the interlock holds it low (R135). -/
def State.endOnTime (s : State) (l : Nat) (bstLow : Bool) (k : Interlock) : State × Bool :=
  let m := (s.lane l).modu
  if !m.onTime then (s, false)
  else if (s.lane l).st ≠ .switching || s.bankPaused l then (s.gatesLow l, false)
  else if m.cycDis && bstLow then s.withholdCycle l
  else
    let s := s.modLane l (fun x => { x with modu := { m with
      onTime := false, gh := m.cycDis && lockRises k, gl := !m.cycDis && lockRises k, t4 := m.t4 + lockDelay k
      withheld := !m.cycDis && m.withheld } })
    (s.interlock l k, false)

/-- The peak comparator ends the on-time at tap `at_` of local time (R181), and the dead time and the untimed switch follow as in
R134. -/
def State.ocLimit (s : State) (l : Nat) (at_ : Int) (bstLow : Bool) (k : Interlock) : State × Bool :=
  if !(s.lane l).modu.onTime then (s, false)
  else
    let s := (s.count (s.frz (pageLANE l)) (LANE_LCNT_OCCNT l)).ev (pageLANE l) 3
    let t3 : Int := at_ + (if (s.lane l).modu.cycDis then s.dtLh l else s.dtHl l : Nat)
    let s := s.modLane l (fun x => { x with modu := { x.modu with
      ocNow := min (x.modu.ocNow + 1) 255, t4 := t3 + max (s.get (LANE_LIMITS_TOFFMIN l)) 1024 } })
    s.endOnTime l bstLow k

/-- BRKTH exceeded in the direction of the grant: a missing trigger is a brake and no fault (R180). -/
def State.overShare (s : State) (l : Nat) : Bool :=
  let m := (s.lane l).modu
  s.brkth l m.share < s.alongGrant l - absI m.share

/-- The bootstrap precharge ends and GL falls (R146). -/
def State.prechargeEnd (s : State) (l : Nat) : State :=
  if (s.lane l).modu.pre then s.modLane l (fun x => { x with modu := { x.modu with pre := false, gl := false } }) else s

/-- The modulator of a lane runs R146 from t1: GL is held high for BSTPRE cycles where the bootstrap is low. -/
def State.precharge (s : State) (l : Nat) (bstLow : Bool) : State :=
  let t1 := s.tapsNow + (if bstLow then s.get (LANE_BSTCFG_BSTPRE l) * 64 else 0 : Nat)
  s.modLane l (fun x => { x with modu := { x.modu with
    first := true, pre := bstLow, gl := bstLow, gh := false, onTime := false, withheld := false, t1 := t1, t4 := t1 } })

/-- A lane that becomes active begins to switch at its first phase edge (R146, R147); a precharge in progress goes on. -/
def State.laneStart (s : State) (l : Nat) (bstLow : Bool) : State :=
  let s := s.modLane l (fun x => { x with st := .switching })
  if (s.lane l).modu.pre then s else s.precharge l bstLow

/-- A lane holds both gates low once its on-time is over (R147). -/
def State.laneOff (s : State) (l : Nat) : State :=
  let s := s.modLane l (fun x => { x with
    modu := if x.modu.onTime then x.modu else { x.modu with gh := false, gl := false, pre := false } })
  s.putB (LANE_TON_SW l) false

/-- A lane that switches no more: its state, and both gates low once its on-time is over (R147). -/
def State.laneIdle (s : State) (l : Nat) (dest : LaneSt) : State := (s.modLane l (fun x => { x with st := dest })).laneOff l

/-- The pause decision of a frame reaches one lane (R23, R147): switching lanes of a paused bank hold both gates low, and those whose
bank was paused run R146 again from t1. -/
def State.pauseLane (low : Nat) (s : State) (l : Nat) : State :=
  if (s.lane l).st ≠ .switching then s
  else if s.bankPaused l then s.laneOff l
  else if bit s.pins.pausedPrev (bankOf l) then s.precharge l (low.testBit l)
  else s

/-! ### Feed-forward and driver supplies (R138, R157) -/

/-- A feed-forward converter completes a sample in the present cycle (R138); those of the last frames are kept (R137, R280). -/
def State.vbsSample (s : State) (b code : Nat) : State :=
  if s.running && s.mode != .deepSleep && s.enabled (8 * b) then
    let xs := ((s.time.loc, code) :: s.pins.vbs.toList.getD b []).take 32
    { s with pins := { s.pins with vbs := s.pins.vbs.setIfInBounds b xs } }
  else s

/-- VDRVb falls to V_DRVUV(f) (R157). -/
def State.bankUv (s : State) (b : Nat) : State :=
  if s.psq.st = .powerless then s
  else
    let s := { s with pins := { s.pins with bankUv := putBits s.pins.bankUv b 1 1 } }
    if !s.alive then s
    else
      let s := s.forceBankSafe b 0x08 7
      (s.enabledLanes.filter (fun l => bankOf l == b)).foldl (fun t l => t.ev (pageLANE l) 11) s

/-- VDRVb rises above V_DRVUV(r) (R157). -/
def State.bankUvRecover (s : State) (b : Nat) : State :=
  { s with pins := { s.pins with bankUv := putBits s.pins.bankUv b 1 0 } }

/-! ### The frequency-lock loop (R145) -/

/-- The update of one lane at a boundary: the average over the cycles whose phase edges fell in the frame before. -/
def State.fllUpdate (s : State) (l : Nat) : State :=
  let m := (s.lane l).modu
  let s := s.setModu l { m with dSum := m.dNext, dCnt := m.dNextN, dNext := 0, dNextN := 0 }
  if s.flag (LANE_MCFG_FLLEN l) ∧ 0 < m.dCnt then
    let den : Int := (m.dCnt * s.mref.p16 * 2 ^ s.get (LANE_MCFG_FLLG l) : Nat)
    let t := clampI (-8192) 8192 (s.getI (LANE_TRIM_TRIM l) - divTrunc (65536 * 65536 * m.dSum) den)
    let sat := t = 8192 ∨ t = -8192
    let rose := sat ∧ !s.flag (LANE_TRIM_SAT l)
    let s := (s.putI (LANE_TRIM_TRIM l) t).putB (LANE_TRIM_SAT l) sat
    if rose then s.ev (pageLANE l) 14 else s
  else s

/-! ### Meanings -/

def execBankUv (bank : Fin 8) (s : State) : Host.Outcome State Fault Refusal := .next (s.bankUv bank.val)

def execBankUvRecover (bank : Fin 8) (s : State) : Host.Outcome State Fault Refusal := .next (s.bankUvRecover bank.val)

def execBstPrechargeEnd (lane : LaneNo) (s : State) : Host.Outcome State Fault Refusal := .next (s.prechargeEnd lane.val)

def execVbsSample (bank : Fin 8) (code : BitVec 10) (s : State) : Host.Outcome State Fault Refusal :=
  .next (s.vbsSample bank.val code.toNat)

end Sys2Proof.Machine
end

