-- ==== Sys2Proof/Machine/Channel.lean ====
section
/-!
DEFINITION. Sys2Proof/Machine/Channel.lean: starts, targets, the outer loops, sharing, protection and phase health
(chapter 07).
-/

namespace Sys2Proof.Machine

/-- Replaces the channel record of a lead. -/
def State.setChan (s : State) (l : Nat) (c : Chan) : State := s.modLane l (fun x => { x with chan := c })

/-- Lane rating in 100 nA. -/
def State.ilane (s : State) (l : Nat) : Int := (s.get (LANE_LANELIM_ILANE l) : Int) * 100000

/-- ILANE_min of R174 in 100 nA: the smallest rating of the lanes not shed. -/
def State.ilaneMin (s : State) (lead : Nat) : Int :=
  match s.healthy lead with
  | [] => 0
  | n :: ns => ns.foldl (fun x k => min x (s.ilane k)) (s.ilane n)

/-- The channel may regulate: ACTIVE or HOLD (R166, R171). -/
def Chan.regulates (c : Chan) : Bool := c.st == .active || c.st == .hold

/-! ### Starts (R48, R167, R168) -/

/-- The conditions of R48. -/
def State.supplyOk (s : State) : Bool :=
  bit (s.get SUP_GOOD_GOOD) 1 &&
    !(s.psq.st == .powerless || s.psq.st == .intUp || s.psq.st == .intDown || s.psq.st == .intLatched || s.psq.st == .lastgasp)

/-- The code of the first condition of R167 that fails; 0 where all hold. -/
def State.startRefusal (s : State) (lead : Nat) : Nat :=
  let hl := s.healthy lead
  let v := s.vCell lead
  if s.mode != .run then 1
  else if !s.supplyOk then 2
  else if !(s.flag CLK_STAT_PLL_LOCK && s.flag CLK_STAT_DL_LOCK) then 3
  else if s.pins.safeIn then 4
  else if bit s.pins.bankUv (bankOf lead) then 5
  else if s.flag THM_TSDSTAT_LATCHED then 6
  else if hl.any (fun n => s.pevt (pageLANE n) &&& 0x2F0 != 0) then 7
  else if hl.any (fun n => s.get (LANE_LANELIM_ILANE n) == 0 || s.get (LANE_RSH_RSH n) == 0) then 8
  else if v < s.getI (LANE_HARDLIM_HVMIN lead) * 100 ∨ (s.get (LANE_HARDLIM_HVMAX lead) : Int) * 100 < v then 9
  else 0

/-- The ISO switches of a channel close (R168). -/
def State.closeIso (s : State) (lead : Nat) : State :=
  let s := (s.healthy lead).foldl (fun t n => t.modLane n (fun x => { x with
    st := .closed
    modu := { Modu.reset with iso := true } })) s
  s.modLane lead (fun x => { x with chan := { Chan.reset with st := .closing, tgt := x.chan.tgt } })

/-- A start (R167): into CLOSING, or refused with its code; a refusal ends a program that waited for it (R248). -/
def State.chanStart (s : State) (lead : Nat) : State :=
  let code := s.startRefusal lead
  if code = 0 then s.closeIso lead
  else
    let s := ((s.put (LANE_CHSTAT_REJ lead) code).ev (pageLANE lead) 1).putBoth (LANE_CHCTL_RUN lead) 0
    if (s.lane lead).eng.st = .starting then s.progEnd lead .faulted 3 code true else s

/-- RUN = 1 applies to a channel (R167, R168). -/
def State.runOne (s : State) (lead : Nat) : State :=
  match (s.lane lead).chan.st with
  | .safe => s.chanStart lead
  | .stopping => s.modLane lead (fun x => { x with chan := { x.chan with st := .active, stopDone := false } })
  | _ => s

/-! ### Targets (R172, R174, R175) -/

/-- SETPT in the fine unit of the mode: CC 100 nA, CV µV, CP µV × 100 nA, CR 10 µΩ. -/
def State.setptFine (s : State) (l : Nat) : Int :=
  match s.get (LANE_MODE_MODE l) with
  | 0 => s.getI (LANE_SETPT_SETPT l) * 100
  | 1 => (s.get (LANE_SETPT_SETPT l) : Int) * 10
  | 2 => s.getI (LANE_SETPT_SETPT l) * 1000000000
  | _ => s.get (LANE_SETPT_SETPT l)

/-- SLEW in the fine unit of the mode. -/
def State.slewFine (s : State) (l : Nat) : Int :=
  let v : Int := s.get (LANE_SLEW_SLEW l)
  match s.get (LANE_MODE_MODE l) with
  | 0 => v * 100
  | 1 => v * 10
  | 2 => v * 1000000000
  | _ => v

/-- The present measured value of the mode's quantity, in its fine unit (R175). -/
def State.measured (s : State) (l : Nat) : Int :=
  let i := s.iCh l
  let v := s.vCell l
  match s.get (LANE_MODE_MODE l) with
  | 0 => i
  | 1 => v
  | 2 => v * i
  | _ => if absI i * 64 < s.ilaneMin l then s.setptFine l else divTrunc (v * 1000000) (absI i)

/-- KP × e in 1/256 of 100 nA, for an error in µV. -/
def State.kp (s : State) (l : Nat) (e : Int) : Int := s.get (LANE_GAINS_KP l) * e * 10

/-- KI × e in 1/256 of 100 nA. -/
def State.ki (s : State) (l : Nat) (e : Int) : Int := s.get (LANE_GAINS_KI l) * e * 10

/-- T has reached SETPT: the transition completes (R175). -/
def State.slewDone (s : State) (l : Nat) : State :=
  ((s.putB (LANE_CHSTAT_SLEWING l) false).put (LANE_CHSTAT_DONESEQ l) (s.get (LANE_CHSTAT_TSEQ l))).ev (pageLANE l) 2

/-- A transition begins (R175): TSEQ advances; a new mode takes its measured value as target, and its integral is set so that
its first demand is the last one.  A SETPT equal to T completes at once. -/
def State.retarget (s : State) (l : Nat) (fresh : Bool) : State :=
  let s := (s.countMod (LANE_CHSTAT_TSEQ l) 1).putB (LANE_CHSTAT_SLEWING l) true
  let s := if fresh then
      let t := s.measured l
      let c := (s.lane l).chan
      s.setChan l { c with tgt := t, iInt := c.dem - s.kp l (t - s.vCell l), hInt := c.dem, lInt := c.dem, fresh := true }
    else s
  if (s.lane l).chan.tgt = s.setptFine l then s.slewDone l else s

/-- The target moves toward SETPT by at most SLEW (R174), and its arrival is reported (R175). -/
def State.slewStep (s : State) (l : Nat) : State :=
  let c := (s.lane l).chan
  if !c.regulates then s
  else
    let goal := s.setptFine l
    let step := s.slewFine l
    let t := if step = 0 then goal else if c.tgt < goal then min goal (c.tgt + step) else max goal (c.tgt - step)
    let s := s.setChan l { c with tgt := t }
    if t = goal then
      if s.flag (LANE_CHSTAT_SLEWING l) then s.slewDone l else s
    else s.putB (LANE_CHSTAT_SLEWING l) true

/-- A lane starts as its channel becomes ACTIVE: R146 runs, and the lane is inactive until a grant marks it active (R146, R147). -/
def State.laneBegin (lead : Nat) (low : Nat) (s : State) (n : Nat) : State :=
  (s.modLane n (fun x => { x with st := .idle })).precharge n (low.testBit (n - lead))

/-- ISOSET frames have passed: the channel becomes ACTIVE with its targets initialised, and its lanes start (R168, R175); bit r of
`low` says that the bootstrap of the lane at relative position r is low. -/
def State.isosetElapsed (s : State) (l low : Nat) : State :=
  if (s.lane l).chan.st = .closing ∧ s.running then
    let s := (s.modLane l (fun x => { x with chan := { x.chan with st := .active } })).retarget l true
    (s.healthy l).foldl (State.laneBegin l low) s
  else s

/-- RAMP begins; a program on the channel ends with LOC (R247, R248). -/
def State.enterRamp (s : State) (l : Nat) : State :=
  let s := s.beginStop l .ramp
  if (s.lane l).eng.st.running then s.progEnd l .faulted 0x0B 0 true else s

/-- HOLDT has passed in HOLD (R168). -/
def State.holdtElapsed (s : State) (l : Nat) : State :=
  if (s.lane l).chan.st = .hold ∧ s.running then s.enterRamp l else s

/-- The channel's engine is in an EIS step (R321). -/
def State.inEis (s : State) (l : Nat) : Bool :=
  let e := (s.lane l).eng
  e.hasRef && (e.recd.getD 0 0).toNat % 16 == 9 && e.st.running

/-- A sweep settles again after RESUME or HOLD (R324, R327). -/
def State.sweepAgain (s : State) (l : Nat) : State :=
  s.modLane l (fun x => { x with swp := { x.swp with settle := x.swp.cfg.nset, whole := false, n := 0, flags := 0, marks := 0 } })

/-- `CHCTL.LOCCLR` written 1 (R168, R188): a sweep that HOLD stopped settles again (R327, R331). -/
def State.locClr (s : State) (l : Nat) : State :=
  if (s.lane l).chan.st = .hold then
    let s := s.modLane l (fun x => { x with chan := { x.chan with st := .active } })
    if s.inEis l then s.sweepAgain l else s
  else s

/-- `CHCTL.SHEDCLR` written 1 (R187). -/
def State.shedClr (s : State) (l : Nat) : State :=
  if (s.lane l).chan.st = .safe then
    ((s.members l).foldl (fun t n => (t.putB (LANE_LSTAT_SHED n) false).modLane n (fun x => { x with st := .safe })) s).putB
      (LANE_CHSTAT_DERATED l) false
  else s

/-! ### The outer loops (R172 to R174) -/

/-- The CV loop of the channel runs as the base of a sweep, once per window (R320). -/
def State.eisCv (s : State) (l : Nat) : Bool :=
  s.inEis l && (s.lane l).swp.cfg.base == 2 && s.get (LANE_MODE_MODE l) == 1

/-- The CV base of a sweep takes this frame's sample, and updates at a window boundary (R320). -/
def State.sweepBase (s : State) (l : Nat) : State :=
  if !s.eisCv l then s
  else
    let w := (s.lane l).swp
    let sum := w.bSum + s.vCell l
    let n := w.bCnt + 1
    if s.frame % max 1 w.cfg.win = 0 ∧ (s.lane l).eng.entry ≠ s.localFrame then
      let err := (s.lane l).chan.tgt - divRound sum n
      s.modLane l (fun x => { x with
        swp := { w with bSum := 0, bCnt := 0, bErr := err, bDem := x.chan.iInt + s.kp l err } })
    else s.modLane l (fun x => { x with swp := { w with bSum := sum, bCnt := n } })

/-- The mode loop's demand in 1/256 of 100 nA (R172). -/
def State.modeDemand (s : State) (l : Nat) : Int :=
  let c := (s.lane l).chan
  let v := s.vCell l
  match s.get (LANE_MODE_MODE l) with
  | 0 => c.tgt * 256
  | 1 => if s.eisCv l then (s.lane l).swp.bDem else c.iInt + s.kp l (c.tgt - v)
  | 2 => divTrunc (c.tgt * 256) (max v 500000)
  | _ => if c.tgt ≤ 0 then 0 else -(divTrunc (v * 256000000) c.tgt)

/-- Errors of the clamp loops in µV (R173). -/
def State.errH (s : State) (l : Nat) : Int := (s.get (LANE_VCLMP_VCLMPH l) : Int) * 100 - s.vCell l
def State.errL (s : State) (l : Nat) : Int := (s.get (LANE_VCLMP_VCLMPL l) : Int) * 100 - s.vCell l

/-- The clamp loops (R173): demand, source in control (0 mode, 2 VCLMPH, 3 VCLMPL), and the integrals that follow the mode. -/
def State.clampLoops (s : State) (l : Nat) (im : Int) : Int × Nat × Int × Int :=
  let c := (s.lane l).chan
  if s.get (LANE_MODE_MODE l) = 1 then (im, 0, c.hInt, c.lInt)
  else if im = 0 then (0, 0, 0, 0)
  else if 0 < im then
    let ih := c.hInt + s.kp l (s.errH l)
    if ih < im then (ih, 2, c.hInt, im) else (im, 0, im, im)
  else
    let il := c.lInt + s.kp l (s.errL l)
    if im < il then (il, 3, im, c.lInt) else (im, 0, im, im)

/-- The clamp of R174 on a demand. -/
def State.clampDemand (s : State) (l : Nat) (d : Int) : Int :=
  let rate := ((s.healthy l).length : Int) * s.ilaneMin l * 256
  let d := clampI (-(s.get (LANE_ILIM_ILIMD l) : Int) * 25600000) ((s.get (LANE_ILIM_ILIMC l) : Int) * 25600000) d
  clampI (-rate) rate d

/-- The first demand of a new loop equals the demand of the frame before: its integral makes up for the target as slewed (R175). -/
def State.freshLoop (s : State) (l : Nat) : State :=
  let c := (s.lane l).chan
  if c.fresh then s.setChan l { c with iInt := c.dem - s.kp l (c.tgt - s.vCell l), fresh := false } else s

/-- One channel's demand for this frame, with the sweep tone added to it (R172 to R174, R323). -/
def State.outerLoop (s : State) (l : Nat) (tone : Int) : State :=
  let s := (s.slewStep l).freshLoop l
  let c := (s.lane l).chan
  let (dem, src, h, lo) :=
    match c.st with
    | .active | .hold =>
      let (d, src, h, lo) := s.clampLoops l (s.modeDemand l)
      let x := s.clampDemand l (d + tone)
      (x, (if x = d + tone then src else 1), h, lo)
    | .stopping | .ramp =>
      let step : Int := (s.get (LANE_STOPCFG_STOPSLEW l) : Int) * 25600000
      let d := if step = 0 then 0 else if 0 < c.dem then max 0 (c.dem - step) else min 0 (c.dem + step)
      let x := s.clampDemand l d
      (x, (if x = d then 0 else 1), c.hInt, c.lInt)
    | _ => (0, 0, c.hInt, c.lInt)
  let s := s.setChan l { c with dem := dem, hInt := h, lInt := lo }
  (s.put (LANE_CHSTAT_LIMSRC l) src).putI (LANE_DEMAND_DEMAND l) (toMilliAmp dem)

/-- The integral of the loop in control, after the grant is known (R173, R174). -/
def State.integrate (s : State) (l : Nat) : State :=
  let c := (s.lane l).chan
  let src := s.get (LANE_CHSTAT_LIMSRC l)
  let hold := src = 1 ∨ s.flag (LANE_CHSTAT_GRANTLIM l) ∨ s.bankPaused l ∨ (s.members l).any (fun n => (s.lane n).st == .brake)
  if !c.regulates || hold then s
  else if src = 2 then s.setChan l { c with hInt := c.hInt + s.ki l (s.errH l) }
  else if src = 3 then s.setChan l { c with lInt := c.lInt + s.ki l (s.errL l) }
  else if s.eisCv l then
    let w := (s.lane l).swp
    if s.frame % max 1 w.cfg.win = 0 ∧ (s.lane l).eng.entry ≠ s.localFrame then
      s.setChan l { c with iInt := c.iInt + s.ki l w.bErr }
    else s
  else if s.get (LANE_MODE_MODE l) = 1 then s.setChan l { c with iInt := c.iInt + s.ki l (c.tgt - s.vCell l) }
  else s

/-! ### Sharing at cycle 1,000 (R176, R177, R180) -/

/-- The relative positions of a channel in drop order (R177). -/
def dropOrder : Nat → List Nat
  | 0 => [0]
  | 1 => [0, 1]
  | 2 => [0, 2, 1, 3]
  | _ => [0, 4, 2, 6, 1, 5, 3, 7]

/-- The number A of active lanes (R177); fixed during an EIS step (R321). -/
def State.activeCount (s : State) (l : Nat) : Nat :=
  let h := (s.healthy l).length
  if s.inEis l then min h (s.lane l).swp.act else
  let ll : Int := (s.get (LANE_STOPCFG_LLCUR l) : Int) * 25600000
  let g := absI (s.lane l).chan.grant
  if ll = 0 then h
  else
    let want := min h (max 1 ((g + ll - 1) / ll).toNat)
    let old := min h (s.get (LANE_CHSTAT_ACTIVE l))
    if want < old ∧ ¬ (4 * g < 3 * ((old : Int) - 1) * ll) then old else want

/-- A lane enters BRAKE at cycle 1,000 (R180): its share keeps the direction and is smaller than half of its current, or turns while the
current exceeds BRKTH. -/
def State.shareBrakes (s : State) (n : Nat) (share : Int) (same : Bool) : Bool :=
  let i := (s.lane n).meas.iS * 256
  (s.lane n).st == .switching && !s.bankPaused n &&
    (if same then decide (2 * absI share < absI i) else decide (s.brkth n share < absI i))

/-- The lane takes its place for the share just given: BRAKE before anything else, then inactive or switching (R147, R177, R180).  A lane
in BRAKE that is inactive stays there while its current exceeds BRKTH. -/
def State.placeLane (s : State) (n : Nat) (share : Int) (brakes act bstLow : Bool) : State :=
  let x := s.lane n
  if brakes then s.enterBrake n
  else if x.st = .brake then
    if act || s.bankPaused n || decide (s.brkth n share < absI (x.meas.iS * 256)) then s else s.laneIdle n .idle
  else if !act then s.laneIdle n .idle
  else if x.st = .switching then s
  else if s.bankPaused n then s.laneIdle n .switching
  else s.laneStart n bstLow

/-- Applies a share to one lane (R133, R137, R141, R147, R176, R177, R180). -/
def State.applyShare (s : State) (lead n : Nat) (share : Int) (chosen bstLow : Bool) : State :=
  let x := s.lane n
  let m := x.modu
  let il := s.ilane n * 256
  let mag := absI share
  let act := chosen && (s.inEis lead || if m.active then decide (il ≤ mag * 256) else decide (il ≤ mag * 128))
  let grant := (s.lane lead).chan.grant
  let dis := if grant = 0 then m.grDis else decide (grant < 0)
  let i := x.meas.iS * 256
  let corr := if act ∧ x.st ≠ .brake then clampI (-(mag / 4)) (mag / 4) (m.corr + divTrunc (share - i) 8) else m.corr
  let veff := x.meas.vS * 1000000 + x.meas.iS * s.get (LANE_RPATH_RPATH n)
  let brakes := s.shareBrakes n share (dis == m.grDis)
  let s := s.setModu n { m with
    active := act, share := share, corr := corr, grDis := dis, veff := veff, nff := (s.mref.p16 : Int) * veff }
  (s.setThreshold n).placeLane n share brakes act bstLow

/-- The grant of one channel takes effect (R20, R169, R176). -/
def State.grantApply (s : State) (lead : Nat) (bst : Nat) : State :=
  let c := (s.lane lead).chan
  match c.st with
  | .safe | .closing => s
  | _ =>
    if c.stopDone then
      (s.healthy lead).foldl (fun t n => (t.gatesLow n).laneIdle n .closed) s
    else
      let a := s.activeCount lead
      let order := (dropOrder (s.get (LANE_LSTAT_W lead))).map (lead + ·)
      let order := order.filter (fun n => !s.flag (LANE_LSTAT_SHED n))
      let share := if a = 0 then 0 else divTrunc c.grant a
      let s := s.put (LANE_CHSTAT_ACTIVE lead) a
      let s := (order.take a).foldl (fun t n => t.applyShare lead n share true (bst.testBit n)) s
      (order.drop a).foldl (fun t n => t.applyShare lead n 0 false (bst.testBit n)) s

/-! ### Stops (R168, R169) -/

/-- At a boundary: a stop that completed one frame ago takes the channel to SAFE. -/
def State.stopFinish (s : State) (lead : Nat) : State :=
  if (s.lane lead).chan.stopDone then s.chanSafe lead else s

/-- Judges a stop on the samples of this boundary (R169): the first boundary judged is the one at which it began, or the next. -/
def State.stopCheck (s : State) (lead : Nat) : State :=
  let c := (s.lane lead).chan
  match c.st with
  | .stopping | .ramp =>
    let n := c.stopFrames + 1
    let low := (s.healthy lead).all (fun k => 2 ≤ (s.lane k).health.lowRun)
    s.setChan lead { c with stopFrames := n, stopDone := low || decide (100 < n) }
  | _ => s

/-! ### Frame protection (R181, R182) -/

/-- Rolls a lane's per-frame counts over at a boundary, after its samples are latched. -/
def State.laneRoll (s : State) (n : Nat) : State :=
  let x := s.lane n
  let i := absI x.meas.iS
  let il := s.ilane n
  let ocf := x.modu.ocNow
  let safe := x.st == .safe || x.st == .shed
  let h := x.health
  let s := s.modLane n (fun y => { y with
    modu := { y.modu with ocNow := 0, swPrev := y.modu.swNow, swNow := false }
    health := { h with
      ocRun := if !safe && max 1 (s.get (LANE_RSH_OCN n)) ≤ ocf then h.ocRun + 1 else 0
      overRun := if !safe && decide (5 * il < 4 * i) then h.overRun + 1 else 0
      lowRun := if decide (64 * i < il) then h.lowRun + 1 else 0 } })
  s.put (LANE_LSTAT_OCF n) ocf

/-- `OCF` has reached `OCN` in each of `OCFR` frames on a lane (R182). -/
def State.ocOver (s : State) (n : Nat) : Bool := max 1 (s.get (LANE_RSH_OCFR n)) ≤ (s.lane n).health.ocRun

/-- V_CELL is outside `HVMIN` to `HVMAX` (R182). -/
def State.hardVolt (s : State) (lead : Nat) : Bool :=
  decide (s.vCell lead < s.getI (LANE_HARDLIM_HVMIN lead) * 100 ∨ (s.get (LANE_HARDLIM_HVMAX lead) : Int) * 100 < s.vCell lead)

/-- The hard limits of R182 on a lane: its current, and on the lead the cell voltage. -/
def State.hardOver (s : State) (n : Nat) : Bool :=
  decide (2 ≤ (s.lane n).health.overRun) || (s.isLead n && s.hardVolt n)

/-- A lane whose own condition R182 names. -/
def State.overLane (s : State) (n : Nat) : Bool := s.hardOver n || s.ocOver n

/-- OC_TRIP and HARD_LIM of R182 on one channel. -/
def State.protectMark (s : State) (lead : Nat) : State :=
  if (s.lane lead).chan.st = .safe then s
  else
    let bits (n : Nat) : Nat := (if s.ocOver n then 16 else 0) + (if s.hardOver n || (n == lead && s.hardVolt lead) then 32 else 0)
    (s.members lead).foldl (fun t n =>
      t.raise (pageLANE n) (if s.flag (LANE_LSTAT_SHED n) then (if n = lead ∧ s.hardVolt lead then 32 else 0) else bits n)) s

/-- The forced SAFE of R182 on one channel. -/
def State.protect (s : State) (lead : Nat) : State :=
  if (s.lane lead).chan.st = .safe then s
  else
    let hl := s.healthy lead
    if hl.any s.hardOver || s.hardVolt lead then s.forceSafe lead 0x02 2 true s.overLane
    else if hl.any s.ocOver then s.forceSafe lead 0x03 3 true s.ocOver
    else s

/-! ### Phase health (R184 to R186) -/

/-- The share that a lane is to be checked against is large enough, and the lane's channel and state allow a check (R184). -/
def State.phaseChecked (s : State) (n : Nat) : Bool :=
  let lead := s.leadOf n
  let c := (s.lane lead).chan.st
  let x := s.lane n
  (c == .active || c == .hold || c == .stopping) && x.modu.active && x.st != .brake && x.modu.swPrev && !s.bankPaused n &&
    decide ((s.get (LANE_PHCFG_PHMIN lead) : Int) * 25600000 ≤ absI x.modu.share)

/-- A lane fault is recorded with its cause (R185). -/
def State.phaseMark (s : State) (n cause : Nat) : State :=
  (s.put (LANE_LSTAT_PHCAUSE n) cause).ev (pageLANE n) (if 3 ≤ cause then 7 else 6)

/-- A lane fault with its cause: shed, or the channel to SAFE (R185, R186). -/
def State.phaseFault (s : State) (n cause : Nat) (leadV : Bool) : State :=
  let lead := s.leadOf n
  let w := s.widthOf lead
  let k := w - (s.healthy lead).length
  let sense := decide (3 ≤ cause)
  let s := s.phaseMark n cause
  if k < min (s.get (LANE_PHCFG_SHEDMAX lead)) (w - 1) ∧ !leadV then
    let s := s.capture n (if sense then 5 else 4) true
    let s := (((s.putB (LANE_LSTAT_SHED n) true).laneSafe n).mrefEval).markWindow lead 128
    let s := ((s.putB (LANE_CHSTAT_DERATED lead) true).ev (pageLANE lead) 8).markFault lead
    s.flt 0
  else s.forceSafe lead 0x06 4 true (fun m => m == n)

/-- The mean of the comparator path differs from I_n by more than SENSDIS % of the share (R185). -/
def State.disagrees (s : State) (n : Nat) : Bool :=
  let x := s.lane n
  let m := s.pathMean n
  let unit : Int := m.2 * s.get (LANE_RSH_RSH n)
  decide (s.get (LANE_PHCFG_SENSDIS (s.leadOf n)) * absI x.modu.share * unit < 100 * absI (m.1 - x.meas.iS * 256 * unit))

/-- Updates the counts of R185 for one lane and answers its cause of fault, 0 for none; `convI` and `convV` report faulty converters
of the lane's current and of the lead's voltage. -/
def State.phaseCheck (s : State) (n : Nat) (convI convV : Bool) : State × Nat :=
  let lead := s.leadOf n
  let x := s.lane n
  let h := x.health
  let ch := (s.lane lead).chan.st
  let inCh := ch == .active || ch == .hold || ch == .stopping
  let share := x.modu.share
  let i := x.meas.iS * 256
  let openN := max 1 (s.get (LANE_PHCFG_OPENN lead))
  let chk := s.phaseChecked n
  let openRun := if chk then (if 4 * absI i < absI share then h.openRun + 1 else 0) else h.openRun
  let disRun := if chk then (if s.disagrees n then h.disRun + 1 else 0) else h.disRun
  let stuckRun :=
    if x.st != .brake || !inCh then 0
    else if s.bankPaused n then h.stuckRun
    else if h.stuckRun = 0 then 1
    else if s.brkth n share < absI i then h.stuckRun + 1 else 1
  let s := s.modLane n (fun y => { y with health := { y.health with openRun := openRun, disRun := disRun, stuckRun := stuckRun } })
  let cause :=
    if 3 ≤ stuckRun then 5
    else if chk && (convI || convV) then 6
    else if chk && openN ≤ disRun then 4
    else if chk && openN ≤ openRun then 1
    else 0
  (s, cause)

/-- A withheld second cycle or a missing trigger acts at once (R148, R156, R185). -/
def State.phaseAtOnce (s : State) (n cause : Nat) : State :=
  if s.phaseChecked n then s.phaseFault n cause false else s

/-- No trip for 4 × P (R148, R180). -/
def State.missingTrigger (s : State) (n : Nat) : State :=
  if (s.lane n).st ≠ .switching ∨ !s.running ∨ s.bankPaused n then s
  else
    let braking := s.overShare n
    let s := s.gatesLow n
    if braking then s.enterBrake n else s.phaseAtOnce n 3

/-! ### SAFE_N (R128) -/

def State.safeAssert (s : State) : State :=
  let s := { s with pins := { s.pins with safeIn := true } }
  if s.alive ∧ !(s.psq.st == .lastgasp) then ((s.forceAllSafe 0x07 5 true).ev pageSYS 2).flt 7 else s

/-! ### Meanings -/

/-- A withheld second cycle hands the lane to phase health (R156, R185). -/
def State.handOver (r : State × Bool) (n : Nat) : State := if r.2 then r.1.phaseAtOnce n 2 else r.1

/-- The comparator of the lane trips `trip` taps after the start of the present CLK_SYS cycle. -/
def execSwitchTrigger (lane : LaneNo) (trip : Nat) (bstLow : Bool) (k : Interlock) (s : State) : Host.Outcome State Fault Refusal :=
  .next (State.handOver (s.switchTrigger lane.val (s.tapsNow + trip) bstLow k) lane.val)

def execOnTimeEnd (lane : LaneNo) (bstLow : Bool) (k : Interlock) (s : State) : Host.Outcome State Fault Refusal :=
  .next (State.handOver (s.endOnTime lane.val bstLow k) lane.val)

/-- The peak comparator reaches OCPK `at_` taps after the start of the present CLK_SYS cycle. -/
def execOcLimit (x : PeakIn) (s : State) : Host.Outcome State Fault Refusal :=
  .next (if s.running then State.handOver (s.ocLimit x.lane.val (s.tapsNow + x.taps) x.bstLow x.lock) x.lane.val else s)

def execMissingTrigger (lane : LaneNo) (s : State) : Host.Outcome State Fault Refusal := .next (s.missingTrigger lane.val)

def execSafeNAssert (s : State) : Host.Outcome State Fault Refusal := .next s.safeAssert

def execSafeNRelease (s : State) : Host.Outcome State Fault Refusal :=
  .next { s with pins := { s.pins with safeIn := false } }

def execIsosetElapsed (x : StartIn) (s : State) : Host.Outcome State Fault Refusal :=
  .next (s.isosetElapsed x.lane.val x.bstLow.toNat)

def execHoldtElapsed (lane : LaneNo) (s : State) : Host.Outcome State Fault Refusal := .next (s.holdtElapsed lane.val)

end Sys2Proof.Machine
end

