-- ==== Sys2Proof/Machine/Fixed.lean ====
section
/-!
DEFINITION. Sys2Proof/Machine/Fixed.lean: the logarithm, sine and square root that chapters 08 and 13 name, in fixed point.

The spec gives the formulas and their rounding to the reported unit; the working precision here is 2^-40 or better
(assumption 5).
-/

namespace Sys2Proof.Machine

/-- ln 2 in 2^-40. -/
def ln2Q40 : Int := 762123384786

/-- Terms z^(2k+1)/(2k+1) of the series of atanh, `n` of them, for z in 2^-40. -/
def atanhTerms : Nat → Int → Int → Nat → Int
  | 0, _, _, _ => 0
  | n + 1, zz, p, k => p / (2 * k + 1) + atanhTerms n zz (p * zz / 2 ^ 40) (k + 1)

/-- ln(num / den) in 2^-40 for positive numbers: the ratio is scaled by a power of two into 1 to 2. -/
def lnQ40 (num den : Nat) : Int :=
  if num = 0 ∨ den = 0 then 0
  else
    let e : Int := (Nat.log2 num : Int) - Nat.log2 den
    let n : Int := if 0 ≤ e then num else num * 2 ^ (-e).toNat
    let d : Int := if 0 ≤ e then den * 2 ^ e.toNat else den
    let z := (n - d) * 2 ^ 40 / (n + d)
    2 * atanhTerms 24 (z * z / 2 ^ 40) z 0 + e * ln2Q40

/-- Terms of the Maclaurin series of sine or cosine, `n` of them: present term, x² and the index of the next factor. -/
def trigTerms : Nat → Int → Int → Nat → Int
  | 0, _, _, _ => 0
  | n + 1, xx, t, k => t + trigTerms n xx (-(t * xx / 2 ^ 48) / ((k + 1) * (k + 2))) (k + 2)

/-- 2π in 2^-48. -/
def twoPiQ48 : Int := 1768559438007110

/-- sin of a fraction of a turn given in 2^-32, in 2^-48. -/
def sinTurn (ph : Nat) : Int :=
  let p := ph % 2 ^ 32
  let q := p / 2 ^ 30
  let r := p % 2 ^ 30
  let x (k : Nat) : Int := (k : Int) * twoPiQ48 / 2 ^ 32
  let s (k : Nat) : Int := trigTerms 14 (x k * x k / 2 ^ 48) (x k) 1
  match q with
  | 0 => s r
  | 1 => s (2 ^ 30 - r)
  | 2 => -(s r)
  | _ => -(s (2 ^ 30 - r))

/-- cos of a fraction of a turn given in 2^-32, in 2^-48. -/
def cosTurn (ph : Nat) : Int := sinTurn (ph + 2 ^ 30)

end Sys2Proof.Machine
end

