-- ==== Sys2Proof/Machine/Measure.lean ====
section
/-!
DEFINITION. Sys2Proof/Machine/Measure.lean: control and precision samples, lane thermistors, coefficient sets, roving
calibration and the accumulators (chapter 08).
-/

namespace Sys2Proof.Machine

/-! ### Marks of the precision window (R196, R198, R204, R211) -/

/-- Samples in the longest precision window: 298 in the window of a 1 kS/s sample, and 99 periods of 100 more at the low rate. -/
def markSpan : Nat := 10198

/-- A mark that counts from the next sample on. -/
def markAhead : Nat := markSpan + 1

/-- The window of a precision sample that completes now holds the marked sample: a sinc3 filter of 298 samples, or 100 of them. -/
def inWindow (low : Bool) (m : Nat) : Bool := decide (m ≤ markSpan) && decide ((if low then 0 else 9900) < m)

/-- One sample passes under the marks. -/
def Meas.markStep (m : Meas) : Meas :=
  { m with mkSwap := m.mkSwap - 1, mkSw := if m.swNext then markSpan else m.mkSw - 1, swNext := false, mkBand := m.mkBand - 1 }

/-! ### Converters and coefficient sets (R191, R203, R205) -/

def State.spare (s : State) (k : Nat) : Spare := s.cal.spares.toList.getD k Spare.reset
def State.setSpare (s : State) (k : Nat) (x : Spare) : State :=
  { s with cal := { s.cal with spares := s.cal.spares.setIfInBounds k x } }
def State.modSpare (s : State) (k : Nat) (f : Spare → Spare) : State := s.setSpare k (f (s.spare k))
def spareNos : List Nat := List.range 8

/-- The home bank of converter `c` (R191). -/
def convBank (c : Nat) : Nat := if c < 128 then c % 64 / 8 else c - 128

/-- The band in force at a bank's sensor (R204, R375). -/
def State.bandOf (s : State) (b : Nat) : Nat := bitsOf (s.get THM_BAND_BAND) (3 * b) 3

/-- The range type an input is converted in: 0 HI, 1 LO, 2 VOLT. -/
def State.inputRange (s : State) (input : Nat) : Nat := if input < 64 then s.get (LANE_MSTAT_RNG input) else 2

/-- The range types a converter has sets for (R203). -/
def hasSet (c rng : Nat) : Bool :=
  if c < 64 then rng == 0 || rng == 1 else if c < 128 then rng == 2 else c < 136 && rng < 3

def coefKey (c band rng word : Nat) : Nat := ((c * 5 + band) * 3 + rng) * 4 + word

def coefDflt : Nat → Word := fun _ => 0

def State.coef (s : State) (k : Nat) : Word := sparseGet coefDflt s.cal.coef k
def State.setCoef (s : State) (k : Nat) (v : Word) : State :=
  { s with cal := { s.cal with coef := sparseSet coefDflt s.cal.coef k v } }

/-- Full scale in µV (R203). -/
def fullScale : Nat → Int
  | 0 => 104858
  | 1 => 10486
  | _ => 8389000

/-- The calibrated value of a raw average, in 2^-84 of full scale (R203). -/
def State.calY (s : State) (c rng : Nat) (x : Int) : Int :=
  let k := coefKey c (s.bandOf (convBank c)) rng 0
  let ofs := signed 24 (bitsOf (s.coef k).toNat 0 24)
  let gain := signed 24 (bitsOf (s.coef (k + 1)).toNat 0 24)
  let lin := signed 16 (bitsOf (s.coef (k + 2)).toNat 0 16)
  let xc := x - ofs * 128
  xc * 2 ^ 54 + xc * gain * 2 ^ 28 + (if s.flag CAL_CFG_LINEN then lin * xc * xc else 0)

/-- The converter that serves an input (R208, R215). -/
def State.server (s : State) (input : Nat) : Nat :=
  match s.cal.serve.find? (fun p => p.1 = input) with
  | some p => 128 + p.2
  | none => input

/-- Limits of the linear range in nV (R192, R193). -/
def rangeLimits : Nat → Int × Int
  | 0 => (-104800000, 104800000)
  | 1 => (-10480000, 10480000)
  | _ => (-250000000, 5750000000)

/-- Limits a calibrated value to the linear range (R194); the flag says that it was limited. -/
def limitY (rng : Nat) (y : Int) : Int × Bool :=
  let fs := fullScale rng * 1000
  let lo := (rangeLimits rng).1 * 2 ^ 84
  let hi := (rangeLimits rng).2 * 2 ^ 84
  if y * fs < lo then (lo / fs, true) else if hi < y * fs then (hi / fs, true) else (y, false)

/-- A value in 2^-84 of full scale in 1/65,536 of the sample's unit: 100 nA for a current (R192), µV for a voltage. -/
def State.toUnit (s : State) (input : Nat) (rng : Nat) (y : Int) : Int :=
  if input < 64 then
    let rsh := s.get (LANE_RSH_RSH input)
    let sh := s.getI (LANE_MCTL_SHTRIM input)
    if rsh = 0 then 0 else y * fullScale rng * (2 ^ 20 + sh) * 10000000 / (2 ^ 88 * (rsh : Int))
  else y * fullScale 2 / 2 ^ 68

/-- Rounds 1/65,536 of a unit to the unit (R199). -/
def roundUnit (u : Int) : Int := (u + 32768) / 65536

/-! ### Faults of converters (R213 to R215) -/

/-- The fault map holds converter `c`. -/
def State.convFaulty (s : State) (c : Nat) : Bool := bit (s.get (CAL_FAULT_MAP (c / 32))) (c % 32)

/-- Passes an input to a converter: its own, or spare `k`. -/
def State.setServer (s : State) (input : Nat) (k : Option Nat) : State :=
  let rest := s.cal.serve.filter (fun p => p.1 ≠ input)
  let s := { s with cal := { s.cal with serve := match k with | some n => (input, n) :: rest | none => rest } }
  if input < 64 then s.putB (LANE_MSTAT_SUBI input) k.isSome else s.putB (LANE_MSTAT_SUBV (input - 64)) k.isSome

/-- A spare parks on a converter that it now serves for (R215); where it takes over from the ladder, that is a hand-over (R211). -/
def State.parkSpare (s : State) (k c : Nat) : State :=
  let s := if s.server c = 128 + k then s
    else s.modLane (c % 64) (fun y => { y with meas := { y.meas with mkSwap := markAhead } })
  let s := s.modSpare k (fun x => { x with phase := 5, parkedOn := c, park := false, ready := none, ovl := 0, sum := 0 })
  (s.setServer c (some k)).ev pageCAL 3

/-- The spare of a faulty lane converter's bank that substitutes for it parks on it at once, if it is healthy (R215). -/
def State.parkAtOnce (s : State) (k c : Nat) : State :=
  if c < 128 ∧ convBank c = k ∧ (s.spare k).phase ≠ 5 ∧ !(s.spare k).failed then s.parkSpare k c else s

/-- A converter is found faulty (R214): map, count, event; a spare that substitutes for it parks at once (R215). -/
def State.convFault (s : State) (c : Nat) : State :=
  if s.convFaulty c then s
  else
    let f := CAL_FAULT_MAP (c / 32)
    let s := s.put f (putBits (s.get f) (c % 32) 1 1)
    let s := (s.count (s.frz pageCAL) CAL_EVCNT_CONVFLT).ev pageCAL 2
    let s := if c < 64 then s.putB (LANE_MSTAT_IFLT c) true else if c < 128 then s.putB (LANE_MSTAT_VFLT (c - 64)) true else s
    match spareNos.find? (fun k => (s.spare k).subj = c && ((s.spare k).phase = 3 || (s.spare k).phase = 4)) with
    | some k => s.parkAtOnce k c
    | none => s

/-- Ends a visit: idle at the zero point until the slot ends (R208). -/
def Spare.idle (x : Spare) : Spare :=
  { x with phase := 0, input := 255, subj := 255, ovl := 0, sum := 0, restarts := 0, again := false, skipped := false,
           park := false, ready := none }

/-- A visit counts as skipped, once (R213): before the hand-over the subject keeps its input; after it OVL2 runs with the stored set. -/
def State.skipVisit (s : State) (k : Nat) : State :=
  let s := if (s.spare k).skipped then s else s.count (s.frz pageCAL) CAL_EVCNT_SKIPCNT
  s.modSpare k (fun x =>
    if x.phase = 3 ∨ x.phase = 4 then
      { x with phase := 4, skipped := true, ovl := if x.phase = 3 then 0 else 200, sum := 0, ready := none }
    else x.idle)

/-- A matching window of spare `k` is in progress: OVL1 or OVL2 after its settling (R208). -/
def Spare.matching (x : Spare) : Bool := (x.phase == 2 || x.phase == 4) && decide (200 ≤ x.ovl) && decide (x.ovl < 10200)

/-- A matching window restarts; the fourth restart of a visit skips it (R213). -/
def State.restartWindow (s : State) (k : Nat) : State :=
  let x := s.spare k
  if x.matching then
    let s := s.setSpare k { x with ovl := 200, sum := 0, restarts := x.restarts + 1, ready := none }
    if 4 ≤ x.restarts + 1 then s.skipVisit k else s
  else s

/-- Restarts the windows that compare an input. -/
def State.disturbInput (s : State) (input : Nat) : State :=
  (spareNos.filter (fun k => (s.spare k).input == input)).foldl State.restartWindow s

/-- The lanes with an input that a converter of bank `b` serves: those of the bank, and the partner bank's that its spare serves (R191,
R204). -/
def State.bandLanes (s : State) (b : Nat) : List Nat :=
  (List.range 8).map (8 * b + ·) ++ (s.cal.serve.filter (fun p => p.2 == b && p.1 % 64 / 8 != b)).map (fun p => p.1 % 64)

/-- A band change at a bank's sensor (R204, R219). -/
def State.bandChanged (s : State) (b : Nat) : State :=
  let s := s.ev pageCAL 11
  let s := (s.bandLanes b).foldl (fun t l =>
    ((t.modLane l (fun x => { x with meas := { x.meas with mkBand := markAhead } })).markSample (t.leadOf l) 64).modLane (t.leadOf l)
      (fun x => { x with rep := { x.rep with mark := x.rep.mark ||| 2 } })) s
  spareNos.foldl (fun t k =>
    let x := t.spare k
    if (x.phase = 1 ∧ k = b) ∨ (x.phase = 3 ∧ convBank x.subj = b) then
      if x.again then t.skipVisit k else t.setSpare k { x with again := true }
    else if k = b ∨ convBank x.subj = b then t.restartWindow k
    else t) s

/-! ### Current ranges (R195) -/

/-- Switches a current converter's range. -/
def State.switchRange (s : State) (l rng : Nat) : State :=
  let s := (s.put (LANE_MSTAT_RNG l) rng).count (s.frz (pageLANE l)) (LANE_MSTAT_RSWCNT l)
  let s := s.modLane l (fun x => { x with meas := { x.meas with swNext := true, rdnRun := 0 } })
  let s := s.markWindow (s.leadOf l) 2
  s.disturbInput l

/-- The comparator trips at RUP (R195). -/
def State.rangeUp (s : State) (l : Nat) : State :=
  let auto := s.get (LANE_MCTL_RANGE l) = 0 ∨ s.get (LANE_MCTL_RANGE l) = 3
  if s.running ∧ s.enabled l ∧ auto ∧ s.get (LANE_MSTAT_RNG l) = 1 then s.switchRange l 0 else s

/-- RUP and RDN within their limits (R195). -/
def State.rup (s : State) : Nat := max 5000 (min 9500 (s.get CAL_RANGETH_RUP))
def State.rdn (s : State) : Nat := max 1000 (min (s.rup - 500) (s.get CAL_RANGETH_RDN))

/-- The range decision at a boundary (R195). -/
def State.rangeFrame (s : State) (l peak : Nat) : State :=
  let cur := s.get (LANE_MSTAT_RNG l)
  match s.get (LANE_MCTL_RANGE l) with
  | 1 => if cur = 0 then s.modLane l (fun x => { x with meas := { x.meas with rdnRun := 0 } }) else s.switchRange l 0
  | 2 => if cur = 1 then s else s.switchRange l 1
  | _ =>
    if cur = 1 then s
    else
      let run := if peak ≤ s.rdn then (s.lane l).meas.rdnRun + 1 else 0
      let s := s.modLane l (fun x => { x with meas := { x.meas with rdnRun := run } })
      if max 1 (s.get CAL_CFG_RDNHOLD) ≤ run then s.switchRange l 1 else s

/-! ### Control samples (R197, R210) -/

/-- The raw average of a converter over the frame. -/
def rawOf (x : FrameIn) (c : Nat) : Int :=
  let l := x.lanes.getD (c % 64) ⟨0, 0, 0, false, false, 0, 0, 0⟩
  if c < 64 then l.i else if c < 128 then l.v else x.spares.getD (c - 128) 0

/-- The lane part of a frame's inputs. -/
def laneIn (x : FrameIn) (l : Nat) : LaneIn := x.lanes.getD l ⟨0, 0, 0, false, false, 0, 0, 0⟩

/-- The ramp still to be taken out of an input's next sample, in 1/65,536 of its unit (R210). -/
def State.rampOf (s : State) (input : Nat) : Int :=
  let r := max 1 (s.get CAL_CFG_RAMP)
  s.cal.ramps.foldl (fun a x => if x.input = input then a + x.delta * ((r : Int) - x.m) / r else a) 0

/-- An input's sample in its unit, and whether it was limited (R194, R197, R210). -/
def State.sampleOf (s : State) (x : FrameIn) (input : Nat) : Int × Bool :=
  let rng := s.inputRange input
  let c := s.server input
  let (y, lim) := limitY rng (s.calY c rng (rawOf x c))
  if input < 64 ∧ s.get (LANE_RSH_RSH input) = 0 then (0, lim)
  else (roundUnit (s.toUnit input rng y + s.rampOf input), lim)

/-- Latches the control samples of lane `l` (R197). -/
def State.latchLane (s : State) (x : FrameIn) (l : Nat) : State :=
  let (i, limI) := s.sampleOf x l
  let (v, limV) := s.sampleOf x (l + 64)
  let s := (s.putB (LANE_MSTAT_OVRI l) limI).putB (LANE_MSTAT_OVRV l) limV
  let lead := s.leadOf l
  let s := s.modLane l (fun y => { y with meas := { y.meas with iPrev := y.meas.iS, vPrev := y.meas.vS, iS := i, vS := v } })
  let s := if limI || limV then
      (s.modLane lead (fun y => { y with rep := { y.rep with mark := y.rep.mark ||| 1 } })).ev pageCAL 7
    else s
  let s := if limI then s.disturbInput l else s
  if limV then s.disturbInput (l + 64) else s

/-- An input that a channel's sweep takes in: the lead's voltage, and the currents of the lanes that are not shed (R172, R325). -/
def State.sweeps (s : State) (input : Nat) : Bool :=
  if input < 64 then !s.flag (LANE_LSTAT_SHED input) else s.isLead (input - 64)

/-- The ramps advance one frame and mark the lanes they touch (R210, R211). -/
def State.rampFrame (s : State) : State :=
  let r := max 1 (s.get CAL_CFG_RAMP)
  let s := s.cal.ramps.foldl (fun t x => t.modLane (x.input % 64) (fun y => { y with
    meas := { y.meas with mkSwap := markSpan } })) s
  let s := s.cal.ramps.foldl (fun t x => t.modLane (t.leadOf (x.input % 64)) (fun y => { y with
    rep := { y.rep with mark := y.rep.mark ||| 2 } })) s
  let s := s.cal.ramps.foldl (fun t x => if t.sweeps x.input then t.markSample (t.leadOf (x.input % 64)) 64 else t) s
  { s with cal := { s.cal with ramps := (s.cal.ramps.map (fun x => { x with m := x.m + 1 })).filter (fun x => x.m < r) } }

/-- The matching sums of the spares in an overlap (R208, R210). -/
def State.matchFrame (s : State) (x : FrameIn) (k : Nat) : State :=
  let sp := s.spare k
  if sp.phase = 2 ∨ sp.phase = 4 then
    let rng := s.inputRange sp.input
    let ySp := (limitY rng (s.calY (128 + k) rng (rawOf x (128 + k)))).1
    let ySub := (limitY rng (s.calY sp.subj rng (rawOf x sp.subj))).1
    let d := if sp.phase = 2 then ySub - ySp else ySp - ySub
    s.setSpare k { sp with ovl := sp.ovl + 1, sum := if sp.ovl < 200 then 0 else if sp.ovl < 10200 then sp.sum + d else sp.sum }
  else s

/-- Clipping modulators (R214). -/
def State.clipFrame (s : State) (x : FrameIn) (l : Nat) : State :=
  let li := laneIn x l
  let m := (s.lane l).meas
  let ci := if li.iClip then m.iClip + 1 else 0
  let cv := if li.vClip then m.vClip + 1 else 0
  let s := s.modLane l (fun y => { y with meas := { y.meas with iClip := ci, vClip := cv } })
  let s := if 4 ≤ ci then s.convFault l else s
  if 4 ≤ cv then s.convFault (l + 64) else s

/-- The clipping modulator of a spare (R214). -/
def State.clipSpare (s : State) (x : FrameIn) (k : Nat) : State :=
  let n := if x.spClip.getLsbD k then (s.spare k).clip + 1 else 0
  let s := s.modSpare k (fun y => { y with clip := n })
  if 4 ≤ n then (s.convFault (128 + k)).modSpare k (fun y => { y with failed := true }) else s

/-- A converter fault to report to phase health: the converter serving the input is faulty and no spare parks on it (R216). -/
def State.servedByFault (s : State) (input : Nat) : Bool := s.convFaulty (s.server input)

/-! ### Precision samples (R198) -/

/-- Three integrators in cascade take one sample (R198). -/
def integrate3 (st : List Int) (x : Int) : List Int :=
  let a := st.getD 0 0 + x
  let b := st.getD 1 0 + a
  let c := st.getD 2 0 + b
  [a, b, c]

/-- Three combs in cascade take one decimated value: the filter's output and the new delays. -/
def comb3 (st : List Int) (x : Int) : Int × List Int :=
  let a := x - st.getD 0 0
  let b := a - st.getD 1 0
  let c := b - st.getD 2 0
  (c, [x, a, b])

/-- The low precision rate is in force for a lane: the estimator selected it, or the device is in STANDBY (R92, R198). -/
def State.lowRate (s : State) (l : Nat) : Bool := s.mode == .standby || s.flag (LANE_SOCSTAT_LOWRATE (s.leadOf l))

/-- One frame of a lane's precision filters; `frame` is the count at the boundary.  The low-rate average covers the 1 kS/s samples since the
last multiple of 10,000 frames. -/
def State.precision (s : State) (l frame : Nat) : State :=
  let m := (s.lane l).meas
  let m := { m with iInteg := integrate3 m.iInteg m.iS, vInteg := integrate3 m.vInteg m.vS, pNew := false }
  if frame % 100 ≠ 0 then s.modLane l (fun y => { y with meas := m })
  else
    let (yi, ci) := comb3 m.iComb (m.iInteg.getD 2 0)
    let (yv, cv) := comb3 m.vComb (m.vInteg.getD 2 0)
    let i := divRound yi 1000000
    let v := divRound yv 1000000
    let m := { m with iComb := ci, vComb := cv, iLow := m.iLow + i, vLow := m.vLow + v, lowCnt := m.lowCnt + 1 }
    let low := s.lowRate l
    let out := !low || frame % 10000 == 0
    let n : Int := max 1 m.lowCnt
    let m := if out then
        { m with iP := if low then divRound m.iLow n else i, vP := if low then divRound m.vLow n else v, pNew := true }
      else m
    let done := frame % 10000 == 0
    let s := if out then
        ((s.putB (LANE_MSTAT_PSWAP l) (inWindow low m.mkSwap)).putB (LANE_MSTAT_PRSW l) (inWindow low m.mkSw)).putB
          (LANE_MSTAT_PBAND l) (inWindow low m.mkBand)
      else s
    let m := if done then { m with iLow := 0, vLow := 0, lowCnt := 0 } else m
    let m := if out then
        { m with pHist := (s.localFrame, m.vP, m.iP) :: m.pHist.filter (fun e => s.localFrame < e.1 + 200000) }
      else m
    s.modLane l (fun y => { y with meas := m })

/-! ### Lane thermistors (R200) -/

/-- The temperature of a ratio num/den in 0.01 °C, if the formula gives one within the format. -/
def thermistorTemp (rnom beta num den : Nat) : Option Int :=
  if den ≤ num ∨ num = 0 then none
  else
    let l := lnQ40 (10000 * num) (rnom * (den - num))
    let bot : Int := (beta : Int) * 100 * 2 ^ 40 + 29815 * l
    if bot ≤ 0 then none
    else
      let t := divRound (29815 * (beta : Int) * 100 * 2 ^ 40) bot - 27315
      if -32767 ≤ t ∧ t ≤ 32767 then some t else none

/-- Adds a frame's code, and converts at each 1 kS/s period (R200). -/
def State.thermistor (s : State) (l frame code : Nat) : State :=
  let m := (s.lane l).meas
  let m := { m with thSum := m.thSum + code, thCnt := m.thCnt + 1 }
  if frame % 100 ≠ 0 then s.modLane l (fun y => { y with meas := m })
  else
    let rnom := s.get CAL_THCFG_RNOM
    let beta := s.get CAL_THCFG_BETA
    let den := m.thCnt * 4096
    let bad := rnom = 0 ∨ beta = 0
    let open_ := ¬bad ∧ 98 * den < 100 * m.thSum
    let short := ¬bad ∧ 100 * m.thSum < 2 * den
    let t := if bad ∨ open_ ∨ short then none else thermistorTemp rnom beta m.thSum den
    let first := bad ∧ !s.cal.thBad
    let s := s.modLane l (fun y => { y with
      meas := { m with thSum := 0, thCnt := 0, temp := t, thOpen := open_, thShort := short } })
    if first ∨ (¬bad ∧ t.isNone) then s.ev pageCAL 8 else s

/-- The evaluation of a precision period has seen whether THCFG is invalid (R200). -/
def State.thermistorSeen (s : State) (frame : Nat) : State :=
  if frame % 100 ≠ 0 then s
  else { s with cal := { s.cal with thBad := s.get CAL_THCFG_RNOM == 0 || s.get CAL_THCFG_BETA == 0 } }

/-! ### Accumulators (R217, R218) -/

/-- The most and the least that an accumulator holds, in its internal unit: `per` internal units make one of the format. -/
def accLimit (per x : Int) : Int := clampI (-(2 ^ 63) * per) (2 ^ 63 * per - 1) x

/-- Adds one frame to a channel's accumulators, zeroed first where ACCCLR asks for it. -/
def State.accumulate (s : State) (lead : Nat) : State :=
  let clr := s.laneBits 0xC80 0xC84
  let z := (s.members lead).any (fun n => clr.testBit n)
  let i := s.iCh lead
  let v := s.vCell lead
  s.modLane lead (fun x => { x with
    meas := { x.meas with
      qAcc := accLimit 1000 ((if z then 0 else x.meas.qAcc) + i)
      eAcc := accLimit 1000000000000 ((if z then 0 else x.meas.eAcc) + v * i)
      iFrm := i, eFrm := v * i }
    rep := { x.rep with qTot := x.rep.qTot + i, eTot := x.rep.eTot + v * i } })

/-- QACC in nC and EACC in µJ, as 64-bit numbers (R217). -/
def State.qAccWord (s : State) (l : Nat) : Nat := unsigned 64 ((s.lane l).meas.qAcc / 1000)
def State.eAccWord (s : State) (l : Nat) : Nat := unsigned 64 ((s.lane l).meas.eAcc / 1000000000000)

/-! ### Roving (R206 to R213) -/

/-- The lane of an input. -/
def inputLane (input : Nat) : Nat := input % 64

/-- A spare that is there, healthy and not parked may rove. -/
def State.canRove (s : State) (k : Nat) : Bool :=
  s.enabled (8 * k) && !(s.spare k).failed && (s.spare k).phase != 5 && !s.convFaulty (128 + k)

/-- The input that a slot of a bank visits (R206). -/
def slotInput (b j : Nat) : Nat := if j < 8 then 8 * b + j else 64 + 8 * b + (j - 8)

/-- The first faulty lane converter of a bank that no spare serves for yet. -/
def State.faultToPark (s : State) (b : Nat) : Option Nat :=
  ((List.range 16).map (slotInput b)).find? (fun c => s.convFaulty c && s.enabled (inputLane c) && s.server c == c)

/-- A slot begins for spare `k` (R206, R207, R215). -/
def State.roveSlot (s : State) (k : Nat) : State :=
  if !s.running ∨ !s.enabled (8 * k) then s
  else
    let p := k ^^^ 1
    let x := s.spare k
    if !s.canRove k then
      if !s.canRove p ∧ !bit s.cal.stopped k then ({ s with cal := { s.cal with stopped := putBits s.cal.stopped k 1 1 } }).ev pageCAL 6 else s
    else if x.phase ≠ 0 then s
    else
      let fb := s.enabled (8 * p) && !s.canRove p
      let idx := if fb then s.frame / 100000 % 32 else s.frame / 200000 % 16
      let s := if fb ∧ !x.fallback then s.ev pageCAL 5 else s
      let s := s.setSpare k { x with fallback := fb }
      match s.faultToPark k with
      | some c => s.modSpare k (fun y => { y with phase := 1, input := c, subj := c, park := true, again := false, restarts := 0 })
      | none =>
        let input := if fb then slotInput (if idx % 2 = 0 then k else p) (idx / 2) else slotInput k idx
        if !s.flag (⟨0xC08, 0, 1⟩ : Fld) ∨ !s.enabled (inputLane input) then s
        else s.modSpare k (fun y => { y with
          phase := 1, input := input, subj := s.server input, park := false, again := false, restarts := 0, skipped := false,
          ready := none, sum := 0, ovl := 0 })

/-- VREF_EST × 2^30 over the ladder fraction of the upper points: numerators of both points and their denominator, in 2^-30 of
full scale (R201, R209). -/
def ladder (vref : Int) : Nat → Int × Int × Int
  | 0 => (vref * 2 ^ 30, -(vref * 2 ^ 30), 64 * 104858)
  | 1 => (vref * 2 ^ 30, -(vref * 2 ^ 30), 640 * 10486)
  | _ => (vref * 2 ^ 30, 2 * (vref * 2 ^ 30), 2 * 8389000)

/-- A solved set: OFS, GAIN, LIN (R209); none where the points do not determine one. -/
structure Solved where
  ofs : Int
  gain : Int
  lin : Int
  ok : Bool
  deriving DecidableEq, Repr

/-- Solves for o, g and l so that three raw points, the first of them zero, map onto their references, and tests the
acceptance limits (R209). -/
def solveSet (vref : Int) (rng : Nat) (pts : List Int) (ofsLim gainLim : Int) : Solved :=
  let x0 := pts.getD 0 0
  let u1 := pts.getD 1 0 - x0
  let u2 := pts.getD 2 0 - x0
  let (r1, r2, d) := ladder vref rng
  let den := u1 * u2 * (u2 - u1)
  if den = 0 then ⟨0, 0, 0, false⟩
  else
    let ln := r2 * u1 - r1 * u2
    let gn := r1 * u2 * (u2 - u1) - ln * u1 - den * d
    let dd := den * d
    let sg : Int := if dd < 0 then -1 else 1
    let ok := decide (absI x0 * 1000000 ≤ ofsLim * 2 ^ 30) && decide (absI gn * 1000000 ≤ gainLim * absI dd)
    ⟨satI 24 (divRound x0 128), satI 24 (divRound (sg * gn * 2 ^ 26) (sg * dd)), satI 16 (divRound (sg * ln * 2 ^ 54) (sg * dd)), ok⟩

/-- Stores an accepted set of the band in force, with TEMP and SEQ (R209). -/
def State.storeSet (s : State) (c rng : Nat) (x : Solved) : State :=
  let b := convBank c
  let k := coefKey c (s.bandOf b) rng 0
  let seq := min 65535 (bitsOf (s.coef (k + 3)).toNat 16 16 + 1)
  let temp := s.get (THM_TEMP_T b)
  let w (n : Nat) : Word := BitVec.ofNat 32 n
  (((s.setCoef k (w (unsigned 24 x.ofs))).setCoef (k + 1) (w (unsigned 24 x.gain))).setCoef (k + 2) (w (unsigned 16 x.lin))).setCoef
    (k + 3) (w (temp + seq * 65536))

/-- A converter's ladder points end: each of its sets for the input's range types is accepted or refused; the result says that all
were accepted (R209). -/
def State.calibrate (s : State) (c input : Nat) (pts : CalPoints) : State × Bool :=
  let vref : Int := s.get CAL_VREFEST_VREF
  let sets : List (Nat × List Int) := if input < 64 then [(0, pts.hi), (1, pts.lo)] else [(2, pts.volt)]
  let solved := sets.map (fun p => (p.1, solveSet vref p.1 p.2 (s.get CAL_CALLIM_OFSLIM) (s.get CAL_CALLIM_GAINLIM)))
  (solved.foldl (fun t p => if p.2.ok then t.storeSet c p.1 p.2 else t) s, solved.all (fun p => p.2.ok))

/-- SPCAL or XCAL of spare `k` ends (R208, R209, R215). -/
def State.spareCalDone (s : State) (k : Nat) (pts : CalPoints) : State :=
  let x := s.spare k
  if !s.running then s
  else if x.phase = 1 then
    let (s, ok) := s.calibrate (128 + k) x.input pts
    if !ok then ((s.convFault (128 + k)).setSpare k { x.idle with failed := true })
    else if x.park then s.parkSpare k x.input
    else s.setSpare k { x with phase := 2, ovl := 0, sum := 0, again := false }
  else if x.phase = 3 then
    let (s, ok) := s.calibrate x.subj x.input pts
    if ok then s.setSpare k { x with phase := 4, ovl := 0, sum := 0, again := false }
    else
      let s := (s.convFault x.subj).parkAtOnce k x.subj
      if (s.spare k).phase = 5 then s else s.modSpare k (fun y => { y with phase := 4, ovl := 0, sum := 0 })
  else s

/-- Δ of a finished window in ppm of full scale (R212). -/
def deltaPpm (sum : Int) : Int := divTrunc (sum * 1000000) (10000 * 2 ^ 84)

/-- A matching window of 10,000 frames ends: Δ is formed and judged (R208, R210, R212). -/
def State.matchEnd (s : State) (k : Nat) : State :=
  let x := s.spare k
  if !s.running ∨ !(x.phase == 2 || x.phase == 4) ∨ x.ovl < 10200 then s
  else
    let s := s.setSpare k { x with ready := some x.sum }
    let big (lim : Nat) : Bool := decide ((lim : Int) * 10000 * 2 ^ 84 < absI x.sum * 1000000)
    let frz := s.frz pageCAL
    let s := if big (s.get CAL_MATCH_MATCHTOL) then (s.count frz CAL_EVCNT_DRIFTCNT).ev pageCAL 0 else s
    if x.phase = 2 ∧ big (s.get CAL_MATCH_MISLIM) then (s.count frz CAL_EVCNT_MISCNT).ev pageCAL 1 else s

/-- The hand-over H1 or H2 at the next boundary (R208, R210, R212). -/
def State.handover (s : State) (k : Nat) : State :=
  let x := s.spare k
  match x.ready with
  | none => s
  | some sum =>
    if !s.running then s
    else
      let d := s.toUnit x.input (s.inputRange x.input) (divTrunc sum 10000)
      let s := { s with cal := { s.cal with
        ramps := s.cal.ramps ++ [Ramp.mk x.input d 0] } }
      if x.phase = 2 then
        let s := (s.setServer x.input (some k)).setSpare k { x with phase := 3, ready := none, again := false, h1 := s.frame + 1 }
        if s.convFaulty x.subj then s.parkAtOnce k x.subj else s
      else
        let back : Option Nat := if 128 ≤ x.subj then some (x.subj - 128) else none
        let s := s.setServer x.input back
        let bad := !x.skipped && decide ((s.get CAL_MATCH_MISLIM : Int) * 10000 * 2 ^ 84 < absI sum * 1000000)
        let s := if x.skipped then s
          else
            let v : Visit := ⟨x.input, s.time.loc, s.bandOf (convBank x.subj)⟩
            let s := { s with cal := { s.cal with vis := s.cal.vis.filter (fun y : Visit => y.input ≠ x.input) ++ [v] } }
            if s.frz pageCAL then s else s.countMod CAL_VISITS_COUNT 1
        let s := s.setSpare k { x.idle with failed := x.failed || bad }
        if bad then
          (s.raiseRecord 7 [k + x.subj * 256, x.h1 % 2 ^ 32, (s.frame + 1) % 2 ^ 32, unsigned 32 (deltaPpm sum), 0]).ev pageCAL 4
        else s

/-- The spare's reading of VREFX (R202). -/
def State.xrefReading (s : State) (k : Nat) (raw : Int) : State :=
  if !s.running ∨ !s.flag CAL_CFG_XREFEN then s
  else
    let nom : Int := s.get CAL_XREFV_XREFV
    let vref : Int := s.get CAL_VREFEST_VREF
    let y := s.calY (128 + k) 2 raw * 8389000
    let good := 2000000 ≤ nom ∧ nom ≤ 5500000 ∧ absI (y - nom * 2 ^ 84) * 1000 ≤ nom * 2 ^ 84 ∧ 0 < y
    if good then
      let v := vref + divRound (vref * (nom * 2 ^ 84) - vref * y) (16 * y)
      { s with cal := { s.cal with xrefOk := true } }.put CAL_VREFEST_VREF v.toNat
    else { s with cal := { s.cal with xrefOk := false } }.ev pageCAL 9

/-- DEEP_SLEEP ends every visit (R219). -/
def State.abandonVisits (s : State) : State :=
  spareNos.foldl (fun t k =>
    let x := t.spare k
    if x.phase = 0 ∨ x.phase = 5 then t
    else
      let t := if x.phase = 3 ∨ x.phase = 4 then t.setServer x.input (if 128 ≤ x.subj then some (x.subj - 128) else none) else t
      t.setSpare k x.idle) { s with cal := { s.cal with ramps := [] } }

/-! ### Coefficient access (R205) -/

/-- The set that CSEL selects, if the converter has it. -/
def State.csel (s : State) : Option Nat :=
  let c := s.get CAL_CSEL_CONV
  let b := s.get CAL_CSEL_BAND
  let r := s.get CAL_CSEL_RNG
  if c ≤ 135 ∧ b ≤ 4 ∧ hasSet c r then some (coefKey c b r 0) else none

/-- A write of CDATA (R205). -/
def State.coefWrite (s : State) (data : Nat) : State :=
  if s.flag (⟨0xC08, 0, 1⟩ : Fld) ∨ spareNos.any (fun k => (s.spare k).phase != 0 && (s.spare k).phase != 5) then s.ev pageCAL 10
  else match s.csel with
    | none => s
    | some k =>
      let w := s.get CAL_CSEL_WORD
      let bits := match w with | 0 => 24 | 1 => 24 | 2 => 16 | _ => 32
      s.setCoef (k + w) (BitVec.ofNat 32 (data % 2 ^ bits))

/-- Where the latched words of a set are kept among the read latches. -/
def coefLatch (k : Nat) : Nat := 0x1000000 + k

/-- The words that an initiator latched at `addr`, if any. -/
def State.latched (s : State) (i : Init) (addr : Nat) : Option Word :=
  (s.latches.find? (fun x => x.who = i ∧ x.addr = addr)).map (·.val)

/-- Replaces an initiator's read latches that `old` names by new ones. -/
def State.latch (s : State) (i : Init) (old : Nat → Bool) (new : List (Nat × Word)) : State :=
  { s with latches := s.latches.filter (fun x => !(x.who == i && old x.addr)) ++ new.map (fun p => ⟨i, p.1, p.2⟩) }

/-- A read of CDATA: word 0 latches words 1 to 3 (R205). -/
def State.coefRead (s : State) (i : Init) : Word × State :=
  match s.csel with
  | none => (0, s)
  | some k =>
    let w := s.get CAL_CSEL_WORD
    if w = 0 then
      (s.coef k, s.latch i (fun a => 0x1000000 ≤ a) ((List.range 3).map (fun j => (coefLatch (k + j + 1), s.coef (k + j + 1)))))
    else ((s.latched i (coefLatch (k + w))).getD (s.coef (k + w)), s)

/-- A read of QACCL latches the other three words (R218). -/
def State.qaccRead (s : State) (i : Init) (l : Nat) : Word × State :=
  let q := s.qAccWord l
  let e := s.eAccWord l
  let a := (LANE_QACCL_Q l).addr
  let w (n : Nat) : Word := BitVec.ofNat 32 n
  (w q, s.latch i (fun x => x == a + 4 || x == a + 8 || x == a + 12) [(a + 4, w (q / 2 ^ 32)), (a + 8, w e), (a + 12, w (e / 2 ^ 32))])

/-! ### Status (R220, R222) -/

/-- A bank is STALE: an enabled input of it was not visited in the band in force within the last 64 s (R220). -/
def State.bankStale (s : State) (b : Nat) : Bool :=
  ((List.range 16).map (slotInput b)).any (fun i => s.enabled (inputLane i) &&
    !s.cal.vis.any (fun v => v.input == i && v.band == s.bandOf b && s.time.loc ≤ v.at_ + 64000000000))

/-- A spare serves its partner bank too (R207): one that has failed or parked since serves no bank. -/
def State.inFallback (s : State) (k : Nat) : Bool := (s.spare k).fallback && s.canRove k

/-- The present slot index of a spare (R206, R207). -/
def State.slotNow (s : State) (k : Nat) : Nat :=
  if s.inFallback k then s.frame / 100000 % 32 else s.frame / 200000 % 16

/-- `CAL.PSTAT` (R222); a bank whose inputs are no longer visited shows as STALE (R207). -/
def State.calPstat (s : State) : Nat :=
  let mask (q : Nat → Bool) : Nat := spareNos.foldl (fun x k => if q k then x + 2 ^ k else x) 0
  mask (fun k => 1 ≤ (s.spare k).phase && (s.spare k).phase ≤ 4)
    + mask (fun b => s.enabled (8 * b) && (s.bankStale b || bit s.cal.stopped b)) * 2 ^ 8
    + mask (fun b => s.inFallback (b ^^^ 1)) * 2 ^ 16 + (if s.cal.xrefOk then 2 ^ 24 else 0)

/-- `CAL.ROVESTAT` of a spare (R222). -/
def State.roveStat (s : State) (k : Nat) : Nat :=
  let x := s.spare k
  (if 1 ≤ x.phase ∧ x.phase ≤ 4 then x.subj else 0xFF) + x.phase * 2 ^ 8 + s.slotNow k * 2 ^ 11 + x.parkedOn * 2 ^ 16
    + (if x.failed then 2 ^ 24 else 0) + (if s.inFallback k then 2 ^ 25 else 0)

/-- `CAL.LTEMP` of a lane (R222). -/
def State.ltempWord (s : State) (l : Nat) : Nat :=
  let m := (s.lane l).meas
  unsigned 16 (m.temp.getD (-32768)) + (if m.thOpen then 65536 else 0) + (if m.thShort then 131072 else 0)

/-! ### Meanings -/

def execRangeUpSwitch (lane : LaneNo) (s : State) : Host.Outcome State Fault Refusal := .next (s.rangeUp lane.val)

def execRoveSlotStart (spare : Fin 8) (s : State) : Host.Outcome State Fault Refusal := .next (s.roveSlot spare.val)

def execSpareCalDone (spare : Fin 8) (pts : CalPoints) (s : State) : Host.Outcome State Fault Refusal :=
  .next (s.spareCalDone spare.val pts)

def execXrefReading (spare : Fin 8) (raw : Int) (s : State) : Host.Outcome State Fault Refusal :=
  .next (s.xrefReading spare.val raw)

def execMatchWindowEnd (spare : Fin 8) (s : State) : Host.Outcome State Fault Refusal := .next (s.matchEnd spare.val)

def execHandover (spare : Fin 8) (s : State) : Host.Outcome State Fault Refusal := .next (s.handover spare.val)

end Sys2Proof.Machine
end

