-- ==== Sys2Proof/Config.lean ====
section
/-!
DEFINITION. Sys2Proof/Config.lean: what the spec leaves open.

Each constant is opaque: nothing in Lean can tell its value, so a claim holds for every value.  A fresh value is
the constant applied to the counter `State.free`, which the step advances.
-/

namespace Sys2Proof

/-- The words shifted out for a read answered with STALE, which R123 does not specify (assumption 3). -/
opaque Config.staleWord : Nat → Word

/-- The words of a nonce that the device draws (R408, R427). -/
opaque Config.nonceWord : Nat → Word

/-- How far a fuse bit whose pulse was cut short reads 1 (R443): 0 under no reference, 1 at margin-low, 2 also normally, 3 and above
also at margin-high. -/
opaque Config.fuseState : Nat → Nat

/-- Which bit of a programming command a reset or a last gasp meets (R443): its place in the command, taken modulo its length. -/
opaque Config.fuseBit : Nat → Nat

/-- VREF_EST after a correction by the factory temperature model (R201), which the spec does not give: the value before, the core
temperature in 0.01 °C, and the two model words of TRIM. -/
opaque Config.vrefModel : Nat → Int → Word → Word → Nat

/-- The core's program counter while it executes firmware, which no command shows (R401, R409). -/
opaque Config.corePc : Nat → Word

/-- The words of the boot ROM that R394 does not state: its code, and the entry addresses of the services. -/
opaque Config.romWord : Nat → Word

/-- Instructions that the core retires (R385) from the cycle that `mcycle` numbers on, in the number of cycles given. -/
opaque Config.retired : Nat → Nat → Nat

/-- The parts of an impedance whose current sum is zero, a quotient that R327 does not state (assumption 6). -/
opaque Config.zeroCurrent : Nat → Word

/-- The sender's barrier number of a BARRIER (R527), which the spec does not give. -/
opaque Config.barrierId : Nat → BitVec 16

/-- The address that `HIF.ERRSTAT` takes for an error of a frame that carried no whole address (R123, R130). -/
opaque Config.errAddr : Nat → BitVec 24

end Sys2Proof
end

