-- ==== Sys2Proof/Machine/Recorder.lean ====
section
/-!
DEFINITION. Sys2Proof/Machine/Recorder.lean: the event ring, its flush to the record store, the store itself and the
authorised clear (chapter 18).
-/

namespace Sys2Proof.Machine

/-! ### Records (R417) -/

/-- The sixteen words of a record with sequence number `seq`. -/
def recordWords (x : RecLatch) (seq : Nat) : List Word :=
  let flags := (if x.merge then 1 else 0) + (if x.defer then 2 else 0) + (if x.noref then 4 else 0)
  let ws : List Nat :=
    [x.typ + x.page * 2 ^ 8 + flags * 2 ^ 24, seq, x.optime, x.pcyc + x.opfrac * 2 ^ 24, x.frame, 0,
      x.ptime % 2 ^ 32, x.ptime / 2 ^ 32, x.pevt + x.new * 2 ^ 16, x.pstat,
      x.data.getD 0 0, x.data.getD 1 0, x.data.getD 2 0, x.data.getD 3 0, x.data.getD 4 0]
  let words := ws.map (BitVec.ofNat 32)
  words ++ [BitVec.ofNat 32 (crc32 (bytesOf words))]

/-- A record whose check code matches (R425). -/
def recordValid (ws : List Word) : Bool := BitVec.ofNat 32 (crc32 (bytesOf (ws.take 15))) == ws.getD 15 0

/-- The ring address of a SEQ (R419). -/
def ringAddr (seq : Nat) : Nat := 0x1C0000 + 64 * (seq % 256)

/-- Sequence number `a` is newer than `b` (R309). -/
def newerSeq (a b : Nat) : Bool := let d := (a + 2 ^ 32 - b) % 2 ^ 32; 1 ≤ d && d ≤ 2 ^ 31 - 1

/-- Recomputes `RSTAT.FILL`. -/
def State.refill (s : State) : State :=
  s.put REC_RSTAT_FILL ((s.get REC_WSEQ_SEQ + 2 ^ 32 - s.get REC_FSEQ_SEQ) % 2 ^ 32)

/-- Enters a record in the ring with SEQ = WSEQ (R419); FAULT, CLEARED and CALFAIL records and a ring of 192 call for a
flush (R423), and a CLEARED record sets CLRSEQ (R427). -/
def State.ringPut (s : State) (x : RecLatch) : State :=
  let seq := s.get REC_WSEQ_SEQ
  let s := (s.setMemWords (ringAddr seq) (recordWords x seq)).put REC_WSEQ_SEQ (seq + 1)
  let s := s.refill
  let s := if x.typ = 5 then s.put REC_CLRSEQ_SEQ seq else s
  let due := x.typ == 2 || x.typ == 5 || x.typ == 7 || 192 ≤ s.get REC_RSTAT_FILL
  { s with evr := { s.evr with due := s.evr.due || due } }

/-- Counts a record lost (R419, R420). -/
def State.recLost (s : State) (seq : Nat) : State :=
  let s := s.count false REC_RSTAT_LOST
  { s with evr := { s.evr with
    lostFirst := if s.evr.lostNew = 0 then seq else s.evr.lostFirst
    lostNew := s.evr.lostNew + 1 } }

/-- A record arrives at the ring (R419, R420). -/
def State.ringAdd (s : State) (x : RecLatch) : State :=
  if s.flag REC_RSTAT_STOREOK then
    if 256 ≤ s.get REC_RSTAT_FILL then (s.recLost (s.get REC_WSEQ_SEQ)).ev pageREC 2
    else if 0 < s.evr.lostNew then
      let o := s.newLatch 0xFF 6 0 [s.evr.lostNew, s.evr.lostFirst, 0, 0, 0]
      let s := { s with evr := { s.evr with lostNew := 0 } }.ringPut o
      if 256 ≤ s.get REC_RSTAT_FILL then (s.recLost (s.get REC_WSEQ_SEQ)).ev pageREC 2 else s.ringPut x
    else s.ringPut x
  else
    let s := if 256 ≤ s.get REC_RSTAT_FILL then
        (s.recLost (s.get REC_FSEQ_SEQ)).put REC_FSEQ_SEQ (s.get REC_FSEQ_SEQ + 1)
      else s
    s.ringPut x

/-- Writes the first waiting capture latch to the ring (R416). -/
def State.recordWrite (s : State) : State :=
  match s.recLatches with
  | [] => s
  | x :: xs => { s with recLatches := xs }.ringAdd x

/-- Writes waiting latches, at most `n`. -/
def drainLatches : Nat → State → State
  | 0, s => s
  | n + 1, s => drainLatches n s.recordWrite

/-- Records wait from a POR to the start-up, which decides their SEQ (R425). -/
def State.recHeld (s : State) : Bool := !s.evr.up && s.get RST_LAST_CODE == 0

/-- Records leave their latches for the ring (R416). -/
def State.recWrites (s : State) : Bool := s.running && s.mode != .deepSleep && !s.recHeld

/-- `n` CLK_SYS cycles pass: as many waiting latches are written (R416). -/
def State.recordsOut (s : State) (n : Nat) : State :=
  if s.recWrites then drainLatches (min n s.recLatches.length) s else s

def execRecRecordWrite (s : State) : Host.Outcome State Fault Refusal := .next (s.recordsOut 1)

/-! ### The store (R421, R422) -/

/-- Sixteen words of the store from a 64-byte slot. -/
def State.storeWords (s : State) (a n : Nat) : List Word := (List.range n).map (fun i => readWordOf s.store (a + 4 * i))

/-- Writes words to the store. -/
def State.setStore (s : State) (a : Nat) (ws : List Word) : State := { s with store := writeWordsOf s.store a ws }

/-- The log size of the store that `CFG.SIZE` describes (R421, R429). -/
def nlogOf (size : Nat) : Nat := (262144 * 2 ^ (min size 6) - 16384) / 64

/-- The log slot of a SEQ. -/
def State.logAddr (s : State) (seq : Nat) : Nat := 0x4000 + 64 * (seq % max 1 (s.get REC_NLOG_NLOG))

/-- A header copy's address. -/
def headerAddr (copy : Nat) : Nat := 0x2000 + 64 * copy

/-- A header with sequence number `hseq` (R422). -/
def State.headerWords (s : State) (hseq : Nat) : List Word :=
  let ws := [0x31434552, hseq, s.get REC_OPTIME_S, s.get REC_PCYC_PCYC, s.get REC_FSEQ_SEQ, s.get REC_CLRSEQ_SEQ,
    s.get REC_NLOG_NLOG].map (BitVec.ofNat 32)
  ws ++ [BitVec.ofNat 32 (crc32 (bytesOf ws))] ++ List.replicate 8 0

/-- A valid header copy. -/
def headerValid (ws : List Word) : Bool :=
  ws.getD 0 0 == 0x31434552 && BitVec.ofNat 32 (crc32 (bytesOf (ws.take 7))) == ws.getD 7 0

/-! ### Flush (R423) -/

/-- Sets the store writer's job. -/
def State.setJob (s : State) (j : RecJob) : State := { s with evr := { s.evr with job := j, retried := false } }

/-- The lowest lane at or above `n` whose capture is pending. -/
def State.nextCapture (s : State) (n : Nat) : Option Nat :=
  laneNos.find? (fun l => n ≤ l && (s.lf.toList.getD l LfCap.reset).pend)

/-- Moves a flush on to its next job: a record, then the captures that this flush has not yet tried, in ascending lane order, then the
header (R352, R423). -/
def State.flushNext (s : State) : State :=
  if s.get REC_WSEQ_SEQ ≠ s.get REC_FSEQ_SEQ then s.setJob .record
  else match s.nextCapture s.evr.capNext with
    | some l => s.setJob (.capture l)
    | none => s.setJob .header

/-- A flush may start: start-up is over, a store is there and nothing is being written. -/
def State.canFlush (s : State) : Bool :=
  s.running && s.evr.up && !s.flag REC_RSTAT_ABSENT && !s.flag REC_RSTAT_FLUSHING && s.evr.job == .none

/-- Starts a flush. -/
def State.startFlush (s : State) : State :=
  if s.canFlush then
    let s := { s with evr := { s.evr with due := false, adv := false, capNext := 0 } }.putB REC_RSTAT_FLUSHING true
    s.flushNext
  else s

/-- The store comes back into service when a flush advances FSEQ (R420). -/
def State.storeBack (s : State) : State :=
  if s.flag REC_RSTAT_STOREOK then s else (s.putB REC_RSTAT_STOREOK true).putB REC_RSTAT_OVERWRITE false

/-- A flush stops (R423), and the third in a row that advanced nothing takes the store out of service (R420). -/
def State.flushStop (s : State) : State :=
  let n := if s.evr.adv then 0 else s.evr.stops + 1
  let s := ((s.count (s.frz pageREC) REC_ERRCNT_STERRCNT).ev pageREC 1).setJob .none
  let s := { s with evr := { s.evr with stops := n, hdrDue := false } }.putB REC_RSTAT_FLUSHING false
  if 3 ≤ n ∧ s.flag REC_RSTAT_STOREOK then (s.putB REC_RSTAT_STOREOK false).putB REC_RSTAT_OVERWRITE true else s

/-- A header write ends: the end of a flush, which first takes in what arrived during it (R423), or of a header write of its own. -/
def State.headerDone (s : State) : State :=
  let s := { s with evr := { s.evr with hseq := (s.evr.hseq + 1) % 2 ^ 32, hcopy := 1 - s.evr.hcopy } }.setJob .none
  let s := if !s.flag REC_RSTAT_FLUSHING then s
    else if s.get REC_WSEQ_SEQ = s.get REC_FSEQ_SEQ then
      ({ s with evr := { s.evr with stops := 0, due := false } }.putB REC_RSTAT_FLUSHING false).ev pageREC 0
    else s.flushNext
  if s.evr.job != .none then s
  else if s.evr.hdrDue then { s with evr := { s.evr with hdrDue := false } }.setJob .header else s

/-- Starts a header write (R422), after the flush in progress if there is one. -/
def State.startHeader (s : State) : State :=
  if s.canFlush then s.setJob .header
  else if s.running && s.evr.up && !s.flag REC_RSTAT_ABSENT then { s with evr := { s.evr with hdrDue := true } }
  else s

/-- The address and the words of the job in hand. -/
def State.jobWrite (s : State) : Nat × List Word :=
  match s.evr.job with
  | .none => (0, [])
  | .record => (s.logAddr (s.get REC_FSEQ_SEQ), s.memWords (ringAddr (s.get REC_FSEQ_SEQ)) 16)
  | .capture l => (0x1000 + 64 * l, (s.lf.toList.getD l LfCap.reset).words)
  | .header => (headerAddr (1 - s.evr.hcopy), s.headerWords ((s.evr.hseq + 1) % 2 ^ 32))

/-- A flush has tried the capture of lane `l`, and goes on. -/
def State.captureTried (s : State) (l : Nat) : State := { s with evr := { s.evr with capNext := l + 1 } }.flushNext

/-- A write was read back as written: the job is done. -/
def State.jobMatched (s : State) : State :=
  match s.evr.job with
  | .none => s
  | .record =>
    let s := { s.put REC_FSEQ_SEQ (s.get REC_FSEQ_SEQ + 1) with evr := { s.evr with adv := true, stops := 0 } }.refill
    s.storeBack.flushNext
  | .capture l =>
    let c := s.lf.toList.getD l LfCap.reset
    ({ s with lf := s.lf.setIfInBounds l { c with pend := false } }.ev pageTLM 8).captureTried l
  | .header => s.headerDone

/-- A write was read back otherwise, or never became ready: one retry for a record or a header, then the flush stops; a capture
stays pending for the next flush (R352, R423). -/
def State.jobFailed (s : State) (timeout : Bool) : State :=
  let s := if timeout then s else s.count (s.frz pageREC) REC_ERRCNT_RDBKCNT
  match s.evr.job with
  | .none => s
  | .capture l => (s.ev pageTLM 9).captureTried l
  | _ =>
    if timeout || s.evr.retried then s.flushStop
    else { s with evr := { s.evr with retried := true } }.ev pageREC 7

/-- A store write and its read-back end (R423). -/
def State.storeWriteDone (s : State) (r : StoreReply) : State :=
  if s.evr.job == .none || !s.running then s
  else
    let w := s.jobWrite
    match r with
    | .matched => (s.setStore w.1 w.2).jobMatched
    | .differs ws => if ws.take 16 = w.2 then (s.setStore w.1 w.2).jobMatched else (s.setStore w.1 (ws.take 16)).jobFailed false
    | .timedOut => s.jobFailed true

def execRecStoreWriteDone (r : StoreReply) (s : State) : Host.Outcome State Fault Refusal := .next (s.storeWriteDone r)

/-- A trigger of R423 holds, the interval of `FLPER` having passed. -/
def State.flushTrigger (s : State) : State :=
  if s.evr.due || 192 ≤ s.get REC_RSTAT_FILL || (s.get REC_CFG_FLPER ≠ 0 && 0 < s.get REC_RSTAT_FILL) then s.startFlush else s

def execRecFlushStart (s : State) : Host.Outcome State Fault Refusal := .next s.flushTrigger

def execRecHeaderPeriodic (s : State) : Host.Outcome State Fault Refusal := .next s.startHeader

/-- Ten seconds have passed with the store out of service (R420). -/
def State.storeRetry (s : State) : State :=
  if !s.flag REC_RSTAT_STOREOK && !s.flag REC_RSTAT_ABSENT then s.startFlush else s

def execRecStoreRetry (s : State) : Host.Outcome State Fault Refusal := .next s.storeRetry

/-- `REC.FLCMD` (R429); a flush asked for while none can start stays due. -/
def State.flCmd (s : State) (data : Nat) : State :=
  let s := if !data.testBit 0 then s
    else if s.canFlush || s.flag REC_RSTAT_FLUSHING then s.startFlush
    else { s with evr := { s.evr with due := true } }
  if data.testBit 1 then s.startHeader else s

/-! ### Start-up (R425) -/

/-- The copy with the newer valid header, if any. -/
def State.newestHeader (s : State) : Option Nat :=
  let a := s.storeWords (headerAddr 0) 16
  let b := s.storeWords (headerAddr 1) 16
  if headerValid a then
    if headerValid b && newerSeq (b.getD 1 0).toNat (a.getD 1 0).toNat then some 1 else some 0
  else if headerValid b then some 1 else none

/-- Probes the log upward from `seq` for valid records in sequence, at most `n` (R425 step 3); the first SEQ not found. -/
def State.probeLog (s : State) : Nat → Nat → Nat
  | 0, seq => seq
  | n + 1, seq =>
    let ws := s.storeWords (s.logAddr seq) 16
    if recordValid ws && (ws.getD 1 0).toNat == seq then s.probeLog n ((seq + 1) % 2 ^ 32) else seq

/-- Sets WSEQ and FSEQ together. -/
def State.setSeqs (s : State) (seq : Nat) : State := ((s.put REC_WSEQ_SEQ seq).put REC_FSEQ_SEQ seq).refill

/-- Steps 2 to 4 of R425 after a POR, from the header `h` loaded. -/
def State.restoreRecorder (s : State) (h : List Word) : State :=
  let n (i : Nat) : Nat := (h.getD i 0).toNat
  let gasp := s.storeWords (0x2100 + 64 * (n 3 % 4)) 16
  let op := if recordValid gasp ∧ bitsOf (gasp.getD 0 0).toNat 0 8 = 3 then max (n 2) (gasp.getD 2 0).toNat else n 2
  let s := ((s.put REC_OPTIME_S op).put REC_PCYC_PCYC (n 3 + 1)).put REC_CLRSEQ_SEQ (n 5)
  let s := s.setSeqs (s.probeLog 256 (n 4))
  let seq := (gasp.getD 1 0).toNat
  if recordValid gasp ∧ s.get REC_FSEQ_SEQ ≤ seq then
    ((s.setStore (s.logAddr seq) gasp).setSeqs ((seq + 1) % 2 ^ 32)).ev pageREC 6
  else s

/-- The fresh header of a blank store (R425). -/
def freshHeader (nlog : Nat) : List Word :=
  let h := ([0x31434552, 1, 0, 0, 0, 0, nlog] : List Nat).map (BitVec.ofNat 32)
  h ++ [BitVec.ofNat 32 (crc32 (bytesOf h))] ++ List.replicate 8 0

/-- Steps 2 to 5 of R425 with the header `h` in copy `c`: the store is in service, a START record and a header follow. -/
def State.recResume (s : State) (c : Nat) (h : List Word) : State :=
  let hs := (h.getD 1 0).toNat
  let s := { s with evr := { s.evr with hseq := hs, hcopy := c } }
  let s := (s.putB REC_RSTAT_STOREOK true).putB REC_RSTAT_OVERWRITE false
  let s := if s.get RST_LAST_CODE = 0 then s.restoreRecorder h else s
  (s.raiseRecord 4 [(s.rd 0x22C).toNat, (s.rd 0x230).toNat, (s.rd 0x24).toNat, (s.rd 0x350).toNat, hs]).setJob .header

/-- The start-up; `wrOk` says whether the writes it makes are read back as written (R425). -/
def State.recStartup (s : State) (wrOk : Bool) : State :=
  if s.evr.up || !s.running then s
  else
    let s := { s with evr := { s.evr with up := true } }.put REC_NLOG_NLOG (nlogOf (s.get REC_CFG_SIZE))
    match s.newestHeader with
    | none =>
      if wrOk then
        let ws := freshHeader (s.get REC_NLOG_NLOG)
        ((s.setStore (headerAddr 0) ws).ev pageREC 5).recResume 0 ws
      else s.putB REC_RSTAT_ABSENT true
    | some c => s.recResume c (s.storeWords (headerAddr c) 16)

def execRecStartup (wrOk : Bool) (s : State) : Host.Outcome State Fault Refusal := .next (s.recStartup wrOk)

/-! ### The last gasp (R424) -/

/-- One attempt to write words to a slot, and whether the read-back is as written (R66). -/
def State.gaspWrite (s : State) (a : Nat) (ws : List Word) (r : StoreReply) : State × Bool :=
  match r with
  | .matched => (s.setStore a ws, true)
  | .differs rs => (s.setStore a (rs.take 16), rs.take 16 == ws)
  | .timedOut => (s, false)

/-- The POWERFAIL record enters the ring with SEQ = WSEQ, ahead of an OVERRUN record that may be owed (R419, R424). -/
def State.gaspRing (s : State) (x : RecLatch) : State :=
  let n := s.evr.lostNew
  let s := { s with evr := { s.evr with lostNew := 0 } }.ringAdd x
  { s with evr := { s.evr with lostNew := n + s.evr.lostNew } }

/-- The POWERFAIL record is written to its slot and read back, once more where the read-back differs, and enters the ring. -/
def State.gaspRecord (s : State) (first second : StoreReply) : State :=
  match s.evr.gasp with
  | none => s
  | some x =>
    let ws := recordWords x (s.get REC_WSEQ_SEQ)
    let a := 0x2100 + 64 * (s.get REC_PCYC_PCYC % 4)
    let r := s.gaspWrite a ws first
    let s := if r.2 then r.1 else (r.1.gaspWrite a ws second).1
    { s with evr := { s.evr with gasp := none } }.gaspRing x

/-! ### Store access (R426) -/

/-- A code of an initiator, as DATA0 of a CLEARED record gives it (R417). -/
def Init.code : Init → Nat
  | .host => 0
  | .u p => 1 + p.val
  | .core => 5

/-- `REC.SCMD` (R426, R428). -/
def State.storeCmd (s : State) (i : Init) (data : Nat) : State :=
  if s.flag REC_SSTAT_BUSY then s
  else
    let begin_ (k : Nat) : State :=
      let s := ((s.putB REC_SSTAT_BUSY true).putB REC_SSTAT_DONE false).putB REC_SSTAT_ERR false
      { s with evr := { s.evr with acc := k } }
    let refuse : State := (s.putB REC_SSTAT_ERR true).putB REC_SSTAT_DONE false
    if data.testBit 0 then if s.flag REC_RSTAT_ABSENT then refuse else begin_ 1
    else if data.testBit 1 then
      if i = .core ∧ s.get REC_SADDR_ADDR < 0x1000 ∧ !s.flag REC_RSTAT_ABSENT then begin_ 2 else refuse
    else s

/-- A store access completes, or fails (R426). -/
def State.storeAccess (s : State) (ok : Bool) : State :=
  if s.evr.acc = 0 || !s.running then s
  else
    let a := s.get REC_SADDR_ADDR / 64 * 64
    let k := s.evr.acc
    let s := { s with evr := { s.evr with acc := 0 } }
    let s := ((s.putB REC_SSTAT_BUSY false).putB REC_SSTAT_DONE true).putB REC_SSTAT_ERR (!ok)
    let s := if !ok then s
      else if k = 1 then (List.range 16).foldl (fun t i => t.wr (0x860 + 4 * i) (readWordOf s.store (a + 4 * i))) s
      else s.setStore a ((List.range 16).map (fun i => s.rd (0x860 + 4 * i)))
    s.ev pageREC 8

def execStoreAccessDone (ok : Bool) (s : State) : Host.Outcome State Fault Refusal := .next (s.storeAccess ok)

/-! ### Authorised clearing (R427) -/

/-- A failed clear: its reason, the nonce void, and one second of hold-off. -/
def State.clearFail (s : State) (reason : Nat) : State :=
  let s := ((s.put REC_CLRSTAT_FAIL reason).put REC_CLRSTAT_STATE 0).count (s.frz pageREC) REC_ERRCNT_CLRFCNT
  { s with evr := { s.evr with holdEnd := s.time.loc + 1000000000 } }.ev pageREC 4

/-- `REC.CLRCMD` (R427): a fresh nonce, whose value nothing states. -/
def State.clearNonce (s : State) (i : Init) (data : Nat) : State :=
  if !data.testBit 0 then s
  else if s.time.loc < s.evr.holdEnd then
    ((s.put REC_CLRSTAT_FAIL 5).count (s.frz pageREC) REC_ERRCNT_CLRFCNT).ev pageREC 4
  else
    let (a, s) := s.draw
    let (b, s) := s.draw
    let s := (s.wr 0x8A0 (Config.nonceWord a)).wr 0x8A4 (Config.nonceWord b)
    (s.put REC_CLRSTAT_STATE 1).put REC_CLRSTAT_OWNER (Init.code i)

/-- A write of `REC.RESPL` by the owner. -/
def State.clearRespL (s : State) (i : Init) (data : Word) : State :=
  if s.get REC_CLRSTAT_STATE = 1 ∧ s.get REC_CLRSTAT_OWNER = Init.code i then
    { s with evr := { s.evr with respL := data } }
  else s

/-- A write of `REC.RESPH`, which ends the attempt (R427, R428). -/
def State.clearRespH (s : State) (i : Init) (data : Word) : State :=
  if s.get REC_CLRSTAT_STATE ≠ 1 then s
  else if s.get REC_CLRSTAT_OWNER ≠ Init.code i then s.clearFail 2
  else { s with evr := { s.evr with respH := data } }.put REC_CLRSTAT_STATE 2

/-- The bytes of the serial number as IDENT holds them (R434). -/
def State.serialBytes (s : State) : List Byte :=
  (List.range 8).map (fun i => BitVec.ofNat 8 (bitsOf s.shadow.serial (8 * i) 8))

/-- The response that a nonce calls for (R408, R427): `tail` follows the serial number. -/
def State.response (s : State) (key : List Word) (lo hi : Word) (tail : List Byte) : Nat :=
  first64 (hmacSha256 (bytesOf key) (bytesOf [lo, hi] ++ s.serialBytes ++ tail))

/-- The core runs and is not halted (CORE.PSTAT bits 0 and 2). -/
def State.coreRuns (s : State) : Bool := bit (s.rd 0x160C).toNat 0 && !bit (s.rd 0x160C).toNat 2

/-- The supervisor checks the response (R427). -/
def State.clearCheck (s : State) : State :=
  if !s.running || s.get REC_CLRSTAT_STATE ≠ 2 || !s.coreRuns then s
  else match s.shadow.key with
    | none => s.clearFail 3
    | some key =>
      let lo := s.rd 0x8A0
      let hi := s.rd 0x8A4
      if s.response key lo hi [] = s.evr.respL.toNat + s.evr.respH.toNat * 2 ^ 32 then
        let s := s.raiseRecord 5 [s.get REC_CLRSTAT_OWNER, lo.toNat, hi.toNat, s.get REC_CLRSEQ_SEQ, 0]
        (s.put REC_CLRSTAT_STATE 3).ev pageREC 3
      else s.clearFail 1

def execClearCheck (s : State) : Host.Outcome State Fault Refusal := .next s.clearCheck

/-- One second without a check, the core being in reset or halted (R427). -/
def State.clearTimeout (s : State) : State :=
  if s.running && s.get REC_CLRSTAT_STATE == 2 && !s.coreRuns then s.clearFail 4 else s

def execClearTimeout (s : State) : Host.Outcome State Fault Refusal := .next s.clearTimeout

end Sys2Proof.Machine
end

