-- ==== Sys2Proof/Machine/Estimator.lean ====
section
/-!
DEFINITION. Sys2Proof/Machine/Estimator.lean: state of charge and capacity estimation (chapter 12).
-/

namespace Sys2Proof.Machine

/-! ### OCV tables (R295 to R297) -/

def ocvBase (t : Nat) : Nat := 0x80000 + 0x800 * t

/-- A little-endian half word of a memory. -/
def State.halfWord (s : State) (a : Nat) : Nat := (s.byte a).toNat + (s.byte (a + 1)).toNat * 256

/-- P_i of table `t`, 0.1 mV. -/
def State.ocvPoint (s : State) (t i : Nat) : Nat := s.halfWord (ocvBase t + 0x10 + 2 * i)

def State.ocvMinseg (s : State) (t : Nat) : Nat := (s.byte (ocvBase t + 1)).toNat
def State.ocvDismarg (s : State) (t : Nat) : Nat := s.halfWord (ocvBase t + 6)

def State.tableOf (s : State) (l : Nat) : Nat := s.get (LANE_ESTCFG_TBL l)
def State.tableValid (s : State) (t : Nat) : Bool := bit (s.get EST_TBLSTAT_VALID) t

/-- SOC in 0.0001 % and segment rise of a rest voltage in µV (R297). -/
def State.ocvConvert (s : State) (t : Nat) (v : Int) : Int × Nat :=
  let p (i : Nat) : Int := s.ocvPoint t i
  if v ≤ 100 * p 0 then (0, 0)
  else if 100 * p 128 ≤ v then (1000000, 0)
  else
    let i := (List.range 128).foldl (fun x k => if 100 * p k ≤ v then k else x) 0
    let d := p (i + 1) - p i
    if 0 < d then (1000000 * (i * (100 * d) + (v - 100 * p i)) / (128 * (100 * d)), d.toNat)
    else (1000000 * i / 128, 0)

/-- A write to `TBLCMD.CHK` (R296). -/
def State.tblCmd (s : State) (data : Nat) : State :=
  { s with estb := { s.estb with check := s.estb.check ||| data % 256 } }

/-- The checks of R296 on one table: whether TCRC matches and whether CHEM, order and range are right. -/
def State.tableCheck (s : State) (t : Nat) : Bool × Bool :=
  let b := ocvBase t
  let chem := (s.byte b).toNat
  let crc := crc32 (bytesOf (s.memWords b 69)) == (s.memWord (b + 0x114)).toNat
  let order := (List.range 128).all (fun i => s.ocvPoint t i ≤ s.ocvPoint t (i + 1))
  (crc, ((1 ≤ chem && chem ≤ 5) || 0x80 ≤ chem) && order && decide (s.ocvPoint t 0 < s.ocvPoint t 128)
    && decide (s.ocvPoint t 128 ≤ 55000))

/-- Validation of one table ends (R296, R298). -/
def State.validateTable (s : State) (t : Nat) : State :=
  let (crc, ord) := s.tableCheck t
  let ok := crc && ord && !bit s.estb.touched t
  let s := s.put EST_TBLSTAT_VALID (putBits (s.get EST_TBLSTAT_VALID) t 1 (if ok then 1 else 0))
  let s := s.put EST_TBLSTAT_CRCERR (putBits (s.get EST_TBLSTAT_CRCERR) t 1 (if crc then 0 else 1))
  let s := s.put EST_TBLSTAT_ORDERR (putBits (s.get EST_TBLSTAT_ORDERR) t 1 (if ord then 0 else 1))
  if ok then
    let c := s.halfWord (ocvBase t + 4)
    { s with estb := { s.estb with cheff := s.estb.cheff.set t (if c = 0 then 65536 else c) } }
  else s

/-- All tables being validated are done (R296). -/
def State.validateDone (s : State) : State :=
  let s1 := ((List.range 8).filter (bit s.estb.check)).foldl State.validateTable s
  { s1 with estb := { s1.estb with check := 0, touched := 0 } }

/-- An applied write to the OCV range: bytes 0x000 to 0x117 of a table make it invalid (R296). -/
def State.ocvWritten (s : State) (a : Nat) : State :=
  if 0x80000 ≤ a ∧ a < 0x84000 ∧ a % 0x800 < 0x118 then
    let t := (a - 0x80000) / 0x800
    let s := s.put EST_TBLSTAT_VALID (putBits (s.get EST_TBLSTAT_VALID) t 1 0)
    if bit s.estb.check t then { s with estb := { s.estb with touched := s.estb.touched ||| 2 ^ t } } else s
  else s

/-! ### Running state and anchors (R294, R300 to R302, R306) -/

def State.modEst (s : State) (l : Nat) (f : Est → Est) : State := s.modLane l (fun x => { x with est := f x.est })
def State.est (s : State) (l : Nat) : Est := (s.lane l).est

/-- The running state is cleared (R294); the samples that the estimator looks back on are no part of it (R303, R305). -/
def State.estClear (s : State) (l : Nat) : State :=
  let s := s.modEst l (fun e => { Est.reset with cnew := e.cnew, ltime := e.ltime, lowRun := e.lowRun, iHist := e.iHist })
  let low := s.flag (LANE_SOCSTAT_LOWRATE l)
  let s := (((s.wr (LANE_SOCSTAT_SOC l).addr 0).putB (LANE_SOCSTAT_LOWRATE l) low).wr (LANE_SOCINT_S l).addr 0)
  (s.wr (LANE_ANCH_ASOC l).addr 0).wr (LANE_ANCHFRM_FRAME l).addr 0

/-- A break (R306). -/
def State.estBreak (s : State) (l : Nat) : State :=
  (s.modEst l (fun e => { e with a1 := none, broken := decide (0 < e.rest) || e.broken })).putB (LANE_ANCH_A1VALID l) false

/-- Takes an anchor (R300, R302): source 1 REST, 2 OCVSTEP, 3 SEED. -/
def State.takeAnchor (s : State) (l : Nat) (soc : Int) (src rise : Nat) : State :=
  let e := s.est l
  let ok := decide (src ≠ 3) && decide (s.ocvMinseg (s.tableOf l) ≤ rise) && decide (0 < soc) && decide (soc < 1000000) && !e.broken
  let a : Anchor := ⟨soc, e.qe, s.localFrame, ok⟩
  let s := s.modEst l (fun e => { e with sa := soc, qa := e.qe, last := if 0 < e.rest then some a else e.last })
  let s := (s.putB (LANE_SOCSTAT_DISAG l) false).putB (LANE_SOCSTAT_VALID l) true
  let s := ((s.put (LANE_ANCH_ASOC l) ((soc + 50) / 100).toNat).put (LANE_ANCH_ASRC l) src).putB (LANE_ANCH_LEARNABLE l) ok
  s.wr (LANE_ANCHFRM_FRAME l).addr (BitVec.ofNat 32 s.frame)

/-- An anchor was due on a table that is not valid: `TBL_BAD`, once per rest period (R300). -/
def State.tableBad (s : State) (l : Nat) : State :=
  if (s.est l).badSet then s else (s.modEst l (fun e => { e with badSet := true })).ev pageEST 5

/-- An anchor from a voltage, if the table is valid (R297, R300). -/
def State.anchorFrom (s : State) (l : Nat) (v : Int) (src : Nat) : State :=
  let t := s.tableOf l
  if s.tableValid t then
    let r := s.ocvConvert t v
    s.takeAnchor l r.1 src r.2
  else s.tableBad l

/-- The precision samples of a lane that completed within the last second, as (voltage, current). -/
def State.lastSecond (s : State) (l : Nat) : List (Int × Int) :=
  ((s.lane l).meas.pHist.filter (fun e => s.localFrame < e.1 + 100000)).map (fun e => e.2)

/-- The mean of a list, rounded to nearest; `d` for an empty one. -/
def meanOr (d : Int) (xs : List Int) : Int :=
  if xs.isEmpty then d else divRound (xs.foldl (fun a b => a + b) 0) xs.length

/-- The mean precision voltage of the last second (R300). -/
def State.meanVolt (s : State) (l : Nat) : Int := meanOr (s.lane l).meas.vP ((s.lastSecond l).map (fun e => e.1))

/-- The rest count at which the channel is at rest (R299). -/
def State.restFrames (s : State) (l : Nat) : Nat := max 1 (s.get (LANE_ESTCFG_TREST l)) * 3000000

/-- The re-anchor interval in frames (R300). -/
def State.reanchor (s : State) : Nat := max 1 (s.get EST_LRNCFG_RESTUPD) * 100000

/-- The rest counter stands at a frame with a rest anchor: the channel becomes at rest, or a whole number of intervals has passed
since (R300). -/
def State.anchorDue (s : State) (l : Nat) : Bool :=
  let e := s.est l
  e.restAt != 0 && (e.rest - e.restAt) % s.reanchor == 0

/-- The channel is at rest where the counter has reached TREST, and stays so until it restarts (R299). -/
def State.markRest (s : State) (l : Nat) : State :=
  let s := s.modEst l (fun e => { e with restAt := if e.restAt = 0 ∧ s.restFrames l ≤ e.rest then e.rest else e.restAt })
  s.putB (LANE_SOCSTAT_REST l) ((s.est l).restAt != 0)

/-- The rest anchor of a frame, if one is due (R300). -/
def State.restAnchorDue (s : State) (l : Nat) : State := if s.anchorDue l then s.anchorFrom l (s.meanVolt l) 1 else s

/-- An OCV step has ended; one that completed may give an anchor in this frame (R237, R301). -/
def State.ocvEnded (s : State) (l : Nat) (v : Int) (minrest : Nat) (complete : Bool) : State :=
  if complete then s.modEst l (fun e => { e with ocv := some (v, minrest) }) else s

/-- The anchor of an OCV step that completed in this frame (R301). -/
def State.ocvAnchor (s : State) (l : Nat) : State :=
  match (s.est l).ocv with
  | none => s
  | some x =>
    let s := s.modEst l (fun e => { e with ocv := none })
    if x.2 * 100000 ≤ (s.est l).rest then s.anchorFrom l x.1 2 else s

/-- A write of `EST.SEED` (R302). -/
def State.seedWrite (s : State) (data : Nat) : State :=
  let l := bitsOf data 0 6
  let soc := bitsOf data 16 16
  if s.enabled l ∧ s.isLead l ∧ s.flag (LANE_ESTCFG_EN l) ∧ soc ≤ 10000 then s.modEst l (fun e => { e with seed := some soc })
  else s.ev pageEST 8

/-! ### Learning (R307, R308) -/

/-- Sets a channel's DIRTY bit; a writeback in progress no longer clears it (R308, R310). -/
def State.setDirty (s : State) (l : Nat) : State :=
  let s := s.setLaneBit 0xD40 0xD44 l
  { s with estb := { s.estb with snap := putBits s.estb.snap l 1 0 } }

/-- Writes LSTAT and LRNMASK (R308). -/
def State.learnResult (s : State) (l lstat : Nat) (rej : Bool) : State :=
  let s := (s.put (LANE_LRN_LSTAT l) lstat).setLaneBit 0xD58 0xD5C l
  if rej then s.ev pageEST 2 else s

/-- A learned capacity is stored, unless a host write of CAP lands in the same cycle (R308). -/
def State.learnStore (s : State) (l cap lstat : Nat) (host : Option Word) : State :=
  match host with
  | some w => ((s.wr (LANE_CAP_CAP l).addr w).setDirty l).learnResult l 7 true
  | none =>
    let s := (s.put (LANE_CAP_CAP l) cap).count false (LANE_LRN_LCNT l)
    let s := s.modEst l (fun e => { e with ltime := s.get REC_OPTIME_S })
    ((s.setDirty l).learnResult l lstat false).ev pageEST 1

/-- The acceptance test of R308. -/
def State.learnAccept (s : State) (l cnew : Nat) (host : Option Word) : State :=
  let s := s.modEst l (fun e => { e with cnew := cnew })
  let cap := s.get (LANE_CAP_CAP l)
  let d : Int := (cnew : Int) - cap
  if cap = 0 then s.learnStore l cnew 2 host
  else if absI d ≤ cap * s.get EST_CFG_CAPTOL / 256 then
    s.learnStore l (cap + divTrunc (d * max 1 (s.get EST_CFG_LGAIN)) 256).toNat 1 host
  else s.learnResult l 3 true

/-- Learning at the end of a rest period (R307). -/
def State.learn (s : State) (l : Nat) (host : Option Word) : State :=
  match (s.est l).last with
  | none => s
  | some a2 =>
    let take (t : State) : State := (t.modEst l (fun e => { e with a1 := some a2 })).putB (LANE_ANCH_A1VALID l) true
    if !s.flag (LANE_ESTCFG_LRNEN l) || !a2.learnable then s
    else match (s.est l).a1 with
      | none => take s
      | some a1 =>
        let ds := a2.soc - a1.soc
        let dq := a2.qe - a1.qe
        if max 1 (s.get EST_LRNCFG_LRNMAX) * 360000000 < a2.frame - a1.frame then take (s.learnResult l 5 false)
        else if absI ds < 100 * max 4000 (s.get EST_CFG_LRNMIN) then s.learnResult l 4 false
        else if dq = 0 ∨ (0 < ds ∧ dq < 0) ∨ (ds < 0 ∧ 0 < dq) then take (s.learnResult l 6 true)
        else take (s.learnAccept l (divRound (absI dq) (36 * absI ds * 65536000)).toNat host)

/-! ### One frame (R298, R299, R303, R305) -/

/-- The frame's sample keeps the rest period, or begins one (R299). -/
def State.resting (s : State) (l : Nat) : Bool := absI (s.lane l).meas.iFrm ≤ s.get (LANE_ESTCFG_IREST l) * 10000

/-- The rest counter (R299) and what ends with it (R307). -/
def State.restFrame (s : State) (l : Nat) (broke : Bool) (host : Option Word) : State :=
  if s.resting l then (s.modEst l (fun e => { e with rest := e.rest + 1 })).markRest l
  else
    let s := if 0 < (s.est l).rest ∧ !broke then s.learn l host else s
    (s.modEst l (fun e => { e with rest := 0, restAt := 0, broken := false, badSet := false, last := none })).putB
      (LANE_SOCSTAT_REST l) false

/-- The counted SOC S (R298). -/
def State.countedSoc (s : State) (l : Nat) : Int :=
  let e := s.est l
  let cap := s.get (LANE_CAP_CAP l)
  if cap = 0 then e.sa else e.sa + (e.qe - e.qa) / (65536000 * 36 * (cap : Int))

/-- The reported SOC r (R303).  DEDUCED: the first r after the state was cleared has no earlier one to stay below (assumption 11). -/
def State.reportSoc (s : State) (l : Nat) : State :=
  let e := s.est l
  let n : Int := e.iHist.length
  let dis := decide (0 < n ∧ e.iHist.foldl (fun a b => a + b) 0 < -(s.get (LANE_ESTCFG_IREST l) * 10000 : Int) * n)
  let sx := s.countedSoc l
  let t := s.tableOf l
  let floor := decide (sx < 10000) && s.tableValid t &&
    decide (100 * ((s.ocvPoint t 0 : Int) + s.ocvDismarg t) < (s.lane l).meas.vP)
  let c := if floor then 100 else (clampI 0 10000 ((sx + 50) / 100)).toNat
  let s := (s.putB (LANE_SOCSTAT_DISCHG l) dis).putB (LANE_SOCSTAT_NOCAP l) (s.get (LANE_CAP_CAP l) == 0)
  let s := s.putI (LANE_SOCINT_S l) sx
  if !s.flag (LANE_SOCSTAT_VALID l) then s
  else
    let s := if floor ∧ !s.flag (LANE_SOCSTAT_DISAG l) then
        ((s.putB (LANE_SOCSTAT_DISAG l) true).setLaneBit 0xD50 0xD54 l).ev pageEST 0
      else s
    let r := if dis ∧ e.shown then min (s.get (LANE_SOCSTAT_SOC l)) c else c
    (s.put (LANE_SOCSTAT_SOC l) r).modEst l (fun e => { e with shown := true })

/-- A lane of the channel breaks learning (R306): overrange, a faulty converter, or one that phase health reports (R216). -/
def State.laneBreaks (s : State) (l : Nat) : Bool :=
  (s.healthy l).any (fun n => s.flag (LANE_MSTAT_OVRI n) || s.flag (LANE_MSTAT_IFLT n) || s.servedByFault n) ||
    s.servedByFault (64 + l)

/-- The samples of I_CH that the estimator looks back on, whether or not it serves the channel (R303, R305). -/
def State.lookBack (s : State) (l : Nat) : State :=
  let i := (s.lane l).meas.iFrm
  s.modEst l (fun e => { e with
    iHist := (i :: e.iHist).take 100
    lowRun := if absI i ≤ s.get (LANE_ESTLIM_ILOW l) * 10000 then e.lowRun + 1 else 0 })

/-- The frame's charge increment enters QE (R298). -/
def State.countCharge (s : State) (l : Nat) : State :=
  let i := (s.lane l).meas.iFrm
  let k : Int := if 0 < i then (s.estb.cheff.getD (s.tableOf l) 65536 : Nat) else 65536
  s.modEst l (fun e => { e with qe := e.qe + i * k })

/-- A seed that came due at this frame's boundary: the last anchor of the frame, and a break (R302, R306, R312). -/
def State.seedAnchor (s : State) (l : Nat) : State :=
  match (s.est l).seedNow with
  | none => s
  | some soc => ((s.takeAnchor l (100 * (soc : Int)) 3 0).modEst l (fun e => { e with seedNow := none })).estBreak l

/-- One frame of a channel's estimator; `host` is a host write of CAP applied in the same cycle (R298 to R308). -/
def State.estFrame (s : State) (l : Nat) (host : Option Word) : State :=
  let s := s.lookBack l
  if !s.flag (LANE_ESTCFG_EN l) then s.modEst l (fun e => { e with ocv := none })
  else
    let broke := s.laneBreaks l
    let s := (s.countCharge l).restFrame l broke host
    let s := if broke then s.estBreak l else s
    (((s.restAnchorDue l).ocvAnchor l).seedAnchor l).reportSoc l

/-- The least rest count from the present one on that has a rest anchor (R300). -/
def State.nextRest (s : State) (l : Nat) : Nat :=
  let e := s.est l
  if e.restAt = 0 then max e.rest (s.restFrames l) else e.restAt + divCeil (e.rest - e.restAt) s.reanchor * s.reanchor

/-- The last anchor is a seed of this frame, which acts last (R312). -/
def State.seededNow (s : State) (l : Nat) : Bool :=
  s.get (LANE_ANCH_ASRC l) == 3 && s.rd (LANE_ANCHFRM_FRAME l).addr == BitVec.ofNat 32 s.frame

/-- `REST_ANCHOR`: the rest counter has come to a frame with a rest anchor (R300); the sample of that frame keeps the rest, and a seed
of the frame acts last (R312). -/
def State.restAnchor (s : State) (l : Nat) : State :=
  if s.running ∧ s.isLead l ∧ s.flag (LANE_ESTCFG_EN l) ∧ 0 < (s.est l).rest ∧ s.resting l ∧ !s.seededNow l then
    ((((s.modEst l (fun e => { e with rest := s.nextRest l })).markRest l).restAnchorDue l).reportSoc l)
  else s

/-- At a boundary the seeds written before it come due (R302). -/
def State.seedFrame (s : State) (l : Nat) : State := s.modEst l (fun e => { e with seed := none, seedNow := e.seed })

/-- The estimator wants the low precision rate for a channel (R305). -/
def State.wantsLow (s : State) (l : Nat) : Bool :=
  s.flag (LANE_ESTCFG_EN l) && s.flag (LANE_ESTCFG_LOWEN l) && decide (100000 ≤ (s.est l).lowRun)

/-- At a boundary, before its precision samples: back to 1 kS/s (R305). -/
def State.prateUp (s : State) (l frame : Nat) : State :=
  if frame % 100 = 0 ∧ s.flag (LANE_SOCSTAT_LOWRATE l) ∧ !s.wantsLow l then s.putB (LANE_SOCSTAT_LOWRATE l) false else s

/-- At a boundary, after its precision samples: to the low rate (R305). -/
def State.prateDown (s : State) (l frame : Nat) : State :=
  if frame % 10000 = 0 ∧ !s.flag (LANE_SOCSTAT_LOWRATE l) ∧ s.wantsLow l then s.putB (LANE_SOCSTAT_LOWRATE l) true else s

/-- Reports a lane's precision rate. -/
def State.prateShow (s : State) (n : Nat) : State := s.putB (LANE_MSTAT_PRATE n) (s.lowRate n)

/-! ### Writeback and load (R309 to R311) -/

def slotBase (k : Nat) : Nat := 0x800 * k
def capMagic : Nat := 0x31504143

/-- The 265 words of a slot. -/
def State.slotWords (s : State) (k : Nat) : List Word := s.storeWords (slotBase k) 265

/-- A slot is begun: MAGIC and HCRC match (R309). -/
def slotBegun (ws : List Word) : Bool :=
  (ws.getD 0 0).toNat == capMagic && crc32 (bytesOf (ws.take 7)) == (ws.getD 7 0).toNat

/-- A slot is valid (R309). -/
def slotValid (ws : List Word) : Bool := slotBegun ws && crc32 (bytesOf (ws.take 264)) == (ws.getD 264 0).toNat

def slotSeq (ws : List Word) : Nat := (ws.getD 1 0).toNat

/-- The slot that holds the newest valid image; the lower one of two with equal SEQ (R310, R311). -/
def State.newestSlot (s : State) : Option Nat :=
  let a := s.slotWords 0
  let b := s.slotWords 1
  match slotValid a, slotValid b with
  | true, true => some (if newerSeq (slotSeq b) (slotSeq a) then 1 else 0)
  | true, false => some 0
  | false, true => some 1
  | false, false => none

def State.storeUsable (s : State) : Bool := s.flag REC_RSTAT_STOREOK

/-- Entry `n` of a new image (R309, R310). -/
def State.slotEntry (s : State) (m n : Nat) (old : List Word) : List Word :=
  if m.testBit n then
    [s.rd (LANE_CAP_CAP n).addr,
     BitVec.ofNat 32 (s.get (LANE_LRN_LCNT n) + s.get (LANE_GROUP_W n) * 256 + s.get (LANE_ESTCFG_TBL n) * 1024),
     BitVec.ofNat 32 (s.est n).ltime, 0]
  else (List.range 4).map (fun k => old.getD (8 + 4 * n + k) 0)

/-- The slot that a writeback of the lanes in mask `m` fills, and its words before the closing check code (R309, R310). -/
def State.wbImage (s : State) (m : Nat) : Nat × List Word :=
  let slot := match s.newestSlot with
    | some 0 => 1
    | _ => 0
  let old := match s.newestSlot with
    | some k => s.slotWords k
    | none => []
  let hd := [BitVec.ofNat 32 capMagic, BitVec.ofNat 32 (s.get EST_WBSEQ_SEQ + 1), BitVec.ofNat 32 m,
    BitVec.ofNat 32 (m / 2 ^ 32), s.rd REC_OPTIME_S.addr, 0, 0]
  (slot, hd ++ [BitVec.ofNat 32 (crc32 (bytesOf hd))] ++ laneNos.flatMap (fun n => s.slotEntry m n old))

/-- A writeback starts (R310). -/
def State.wbStart (s : State) : State :=
  let m := s.laneBits 0xD40 0xD44
  let req := s.flag EST_WBCFG_WBREQ
  if !s.running || !s.coreRuns || s.flag EST_WBSTAT_BUSY then s
  else if !(req || (m ≠ 0 && s.get EST_WBCFG_WBPER ≠ 0)) then s
  else
    let s := s.putB EST_WBCFG_WBREQ false
    if !s.storeUsable then (s.put EST_WBSTAT_LRES 2).ev pageEST 7
    else
      let (slot, body) := s.wbImage m
      let s := s.setStore (slotBase slot) body
      { s with estb := { s.estb with snap := m, slot := slot, image := body ++ [BitVec.ofNat 32 (crc32 (bytesOf body))] } }.putB
        EST_WBSTAT_BUSY true

/-- A writeback is read back (R310). -/
def State.wbDone (s : State) (r : StoreReply) : State :=
  if !s.running || !s.flag EST_WBSTAT_BUSY then s
  else
    let s := (s.putB EST_WBSTAT_BUSY false).put EST_WBSTAT_WSLOT s.estb.slot
    let b := slotBase s.estb.slot
    match r with
    | .matched =>
      let s := s.setStore b s.estb.image
      let s := (s.put EST_WBSTAT_LRES 1).put EST_WBSEQ_SEQ (slotSeq s.estb.image)
      let keep (a m : Nat) (t : State) : State := t.wr a (t.rd a &&& ~~~(BitVec.ofNat 32 m))
      (keep 0xD40 s.estb.snap (keep 0xD44 (s.estb.snap / 2 ^ 32) s)).ev pageEST 6
    | .differs ws => ((s.setStore b (ws.take 265)).put EST_WBSTAT_LRES 3).ev pageEST 7
    | .timedOut => (s.put EST_WBSTAT_LRES 2).ev pageEST 7

/-- A writeback in progress is abandoned at t1 of R66: the slot stays begun and not valid (R310). -/
def State.wbAbandon (s : State) : State :=
  if s.flag EST_WBSTAT_BUSY then (s.putB EST_WBSTAT_BUSY false).put EST_WBSTAT_LRES 4 else s

/-- Loads one slot's entries (R311). -/
def State.loadEntries (s : State) (ws : List Word) : State :=
  s.enabledLanes.foldl (fun t n =>
    let cap := ws.getD (8 + 4 * n) 0
    if cap = 0 then t
    else
      let t := (t.wr (LANE_CAP_CAP n).addr cap).put (LANE_LRN_LCNT n) ((ws.getD (9 + 4 * n) 0).toNat % 256)
      t.modEst n (fun e => { e with ltime := (ws.getD (10 + 4 * n) 0).toNat })) s

/-- The supervisor loads the capacities (R311). -/
def State.capLoad (s : State) : State :=
  if !s.storeUsable then (s.put EST_WBSTAT_LRES 2).ev pageEST 4
  else match s.newestSlot with
    | none => s.ev pageEST 4
    | some k =>
      let ws := s.slotWords k
      let other := s.slotWords (1 - k)
      let s := s.loadEntries ws
      let s := (((s.put EST_WBSEQ_SEQ (slotSeq ws)).putB EST_WBSTAT_LOADED true).put EST_WBSTAT_LSLOT k).put EST_WBSTAT_LRES 1
      if slotBegun other ∧ !slotValid other ∧ newerSeq (slotSeq other) (slotSeq ws) then
        let set (a : Nat) (w : Word) (t : State) : State := t.wr a (t.rd a ||| w)
        let old := s.laneBits 0xD48 0xD4C
        let s := set 0xD48 (other.getD 2 0) (set 0xD4C (other.getD 3 0) s)
        if s.laneBits 0xD48 0xD4C ≠ old then s.ev pageEST 3 else s
      else s

/-! ### Meanings -/

def execRestAnchor (lane : LaneNo) (s : State) : Host.Outcome State Fault Refusal := .next (s.restAnchor lane.val)

def execTableValidateDone (s : State) : Host.Outcome State Fault Refusal :=
  .next (if s.running then s.validateDone else s)

def execCapWriteback (s : State) : Host.Outcome State Fault Refusal := .next s.wbStart

def execWritebackDone (r : StoreReply) (s : State) : Host.Outcome State Fault Refusal := .next (s.wbDone r)

end Sys2Proof.Machine
end

