-- ==== Sys2Proof/Machine/Tone.lean ====
section
/-!
DEFINITION. Sys2Proof/Machine/Tone.lean: EIS step operands, tone tables and tones (R317 to R323).
-/

namespace Sys2Proof.Machine

/-- Word `k` of a record. -/
def recW (r : List Word) (k : Nat) : Nat := (r.getD k 0).toNat

/-- The stagger slot σ of a lead (R322). -/
def stagSlot (lead : Nat) : Nat := 8 * (lead / 8 % 2) + lead % 8

/-- Number of tones of a table. -/
def tabNt (tab : List Word) : Nat := bitsOf (recW tab 1) 24 3 + 1

/-- K_i of a table, i from 0. -/
def tabK (tab : List Word) (i : Nat) : Nat := bitsOf (recW tab (2 + i / 2)) (16 * (i % 2)) 16

/-- w_i of a table, i from 0. -/
def tabW (tab : List Word) (i : Nat) : Nat := bitsOf (recW tab (6 + i / 4)) (8 * (i % 4)) 8

/-- |BASESP| in 10 µA (R317). -/
def eisBase (r : List Word) : Nat := (signed 32 (recW r 1)).natAbs

/-- P_0 in nA (R323). -/
def eisPeak (r : List Word) : Nat :=
  let amp := bitsOf (recW r 4) 0 16
  if bit (recW r 0) 6 then amp * 1000000 else eisBase r * amp

/-- The sweep that an EIS record and its tone table describe for a channel (R317 to R323). -/
def sweepCfg (lead : Nat) (r tab : List Word) : SweepCfg :=
  let nt := tabNt tab
  let stag := bit (recW r 0) 5
  let sum := (List.range nt).foldl (fun x i => x + tabW tab i) 0
  { base := bitsOf (recW r 2) 0 2, basesp := recW r 1, stag := stag, win := bitsOf (recW tab 1) 0 24,
    ks := (List.range nt).map (fun i => tabK tab i + if stag then stagSlot lead else 0),
    amps := (List.range nt).map (fun i => eisPeak r * tabW tab i / (1000000 * max 1 sum)),
    p0 := eisPeak r, nset := bitsOf (recW r 4) 16 8, nwin := bitsOf (recW r 4) 24 8 }

/-- A case of R319 other than the check byte holds. -/
def sweepBad (lead : Nat) (r tab : List Word) : Bool :=
  let c := sweepCfg lead r tab
  let amp := bitsOf (recW r 4) 0 16
  let abs := bit (recW r 0) 6
  let idx := List.range (tabNt tab)
  c.base == 3 || bit (recW r 0) 7
    || (!abs && (c.base != 1 || recW r 1 == 0 || amp == 0 || decide (1000 < amp)))
    || (abs && amp == 0)
    || bitsOf (recW tab 0) 8 13 != 0x1FFF
    || idx.any (fun i => tabK tab i == 0 || tabW tab i == 0 || (i != 0 && decide (tabK tab i ≤ tabK tab (i - 1))))
    || (c.stag && idx.any (fun i => tabK tab i % 16 != 0))
    || c.ks.any (fun k => decide (c.win < k * 20) || decide (k * 1000000 < c.win))
    || c.amps.any (fun a => a == 0)

/-- The phase of tone `i` (from 0) at frame count `n`, in 2^-32 turn (R323). -/
def tonePhase (c : SweepCfg) (i n : Nat) : Nat :=
  let nt := c.ks.length
  let k := c.ks.getD i 0
  let lin : Int := (k * n % max 1 c.win * 2 ^ 32 / max 1 c.win : Nat)
  let off : Int := ((i : Int) + 1) * i * 2 ^ 31 / max 1 nt
  ((lin - off) % 2 ^ 32).toNat

/-- The tone τ(n) in mA (R323). -/
def toneSum (c : SweepCfg) (n : Nat) : Int :=
  let t := (List.range c.ks.length).foldl (fun (x : Int) i => x + (c.amps.getD i 0 : Int) * sinTurn (tonePhase c i n)) 0
  divRound t (2 ^ 48)

end Sys2Proof.Machine
end

