-- ==== Sys2Proof/Machine/Charge.lean ====
section
/-!
DEFINITION. Sys2Proof/Machine/Charge.lean: engine-owned fields (R232), and the phases, zones, timers and terminations inside a
CHARGE step (chapter 10).
-/

namespace Sys2Proof.Machine

/-! ### Engine-owned fields (R232) -/

def State.eng (s : State) (l : Nat) : Eng := (s.lane l).eng
def State.modEng (s : State) (l : Nat) (f : Eng → Eng) : State := s.modLane l (fun x => { x with eng := f x.eng })
def State.chg (s : State) (l : Nat) : Chg := (s.lane l).chg
def State.modChg (s : State) (l : Nat) (f : Chg → Chg) : State := s.modLane l (fun x => { x with chg := f x.chg })

/-- The engine writes one of its fields, unless a commit has changed the register since the last step entry (R232): the active
value, and with it what an unwritten staged value reads as. -/
def State.engPut (s : State) (l : Nat) (f : Fld) (v : Nat) : State :=
  if (s.eng l).held.contains (f.addr % 256) then s else s.put f v

/-- The engine applies MODE, SETPT and SLEW, and what is new among them begins a transition (R175, R232). -/
def State.engTargets (s : State) (l mode setpt slew : Nat) : State :=
  let m := s.get (LANE_MODE_MODE l)
  let p := s.get (LANE_SETPT_SETPT l)
  let s := ((s.engPut l (LANE_MODE_MODE l) mode).engPut l (LANE_SETPT_SETPT l) setpt).engPut l (LANE_SLEW_SLEW l) slew
  if s.get (LANE_MODE_MODE l) ≠ m then s.retarget l true
  else if s.get (LANE_SETPT_SETPT l) ≠ p then s.retarget l false
  else s

/-- REST targets (R230). -/
def State.restTargets (s : State) (l : Nat) : State := s.engTargets l 0 0 0

/-- The clamps and limits take their base values (R232). -/
def State.restoreBase (s : State) (l : Nat) : State :=
  let b := (s.eng l).base
  (((s.engPut l (LANE_VCLMP_VCLMPH l) b.clmpH).engPut l (LANE_VCLMP_VCLMPL l) b.clmpL).engPut l (LANE_ILIM_ILIMC l)
    b.limC).engPut l (LANE_ILIM_ILIMD l) b.limD

/-- The engine-owned targets in force. -/
def State.targetsNow (s : State) (l : Nat) : Targets :=
  ⟨s.get (LANE_MODE_MODE l), s.get (LANE_SETPT_SETPT l), s.get (LANE_SLEW_SLEW l), s.get (LANE_VCLMP_VCLMPH l),
    s.get (LANE_VCLMP_VCLMPL l), s.get (LANE_ILIM_ILIMC l), s.get (LANE_ILIM_ILIMD l)⟩

/-- `RCFG.TQUAL`; 0 acts as 1 (R251). -/
def State.tqual (s : State) (l : Nat) : Nat := max 1 (s.get (LANE_RCFG_TQUAL l))

/-- A frame that is not counted for I and P (R240). -/
def State.uncounted (s : State) (l : Nat) : Bool :=
  s.bankPaused l || bit s.pins.pausedPrev (bankOf l) || s.flag (LANE_CHSTAT_GRANTLIM l) || s.flag (LANE_CHSTAT_SLEWING l)

/-! ### Operands and profile (R254, R255) -/

def chgI (r : List Word) : Int := signed 32 (recW r 1)
def chgV (r : List Word) : Nat := bitsOf (recW r 2) 0 16
def chgTerm (r : List Word) : Nat := bitsOf (recW r 2) 16 16
def chgSlew (r : List Word) : Nat := bitsOf (recW r 4) 16 16
def chgProf (r : List Word) : Nat := bitsOf (recW r 4) 0 13
def chgNimh (r : List Word) : Bool := bit (recW r 0) 5
def chgNotrk (r : List Word) : Bool := bit (recW r 0) 6
def chgTnone (r : List Word) : Bool := bit (recW r 0) 7

/-- T1 to T4 in 0.01 °C, `k` from 0. -/
def profT (p : List Word) (k : Nat) : Int := signed 8 (bitsOf (recW p 1) (8 * k) 8) * 50
def profVtrk (p : List Word) : Nat := bitsOf (recW p 2) 0 12
def profVpre (p : List Word) : Nat := bitsOf (recW p 2) 12 12
def profTapr (p : List Word) : Nat := bitsOf (recW p 2) 24 8
def profItrk (p : List Word) : Nat := bitsOf (recW p 3) 0 8
def profIpre (p : List Word) : Nat := bitsOf (recW p 3) 8 8
def profKcool (p : List Word) : Nat := bitsOf (recW p 3) 16 8
def profKwarm (p : List Word) : Nat := bitsOf (recW p 3) 24 8
def profDvwarm (p : List Word) : Nat := bitsOf (recW p 4) 0 16
def profThys (p : List Word) : Nat := bitsOf (recW p 4) 16 8
def profNhold (p : List Word) : Nat := bitsOf (recW p 4) 24 8
def profDvneg (p : List Word) : Nat := bitsOf (recW p 7) 0 8
def profDtdt (p : List Word) : Nat := bitsOf (recW p 7) 8 8
def profTtop (p : List Word) : Nat := bitsOf (recW p 7) 16 8
def profItop (p : List Word) : Nat := bitsOf (recW p 7) 24 8

/-- A case of R256 other than the check byte holds. -/
def chargeBad (r p : List Word) : Bool :=
  decide (chgI r ≤ 0) || chgV r == 0 || bitsOf (recW p 0) 8 13 != 0x1FFF
    || (!chgTnone r && !(decide (profT p 0 < profT p 1) && decide (profT p 1 < profT p 2) && decide (profT p 2 < profT p 3)))
    || decide (profVpre p < profVtrk p)
    || (!chgNotrk r && (profItrk p == 0 || profIpre p == 0))
    || (chgNimh r && profDvneg p == 0 && profDtdt p == 0)
    || (chgNimh r && profTtop p != 0 && profItop p == 0)

/-! ### Zones (R264) -/

def Zone.suspends : Zone → Bool
  | .cold | .hot | .invalid => true
  | _ => false

/-- Zones on the temperature scale, 0 COLD to 4 HOT. -/
def zoneOf : Nat → Zone
  | 0 => .cold | 1 => .cool | 2 => .normal | 3 => .warm | _ => .hot

/-- The raw zone of a temperature. -/
def rawZone (p : List Word) (t : Int) : Nat :=
  if t < profT p 0 then 0 else if t < profT p 1 then 1 else if t ≤ profT p 2 then 2 else if t ≤ profT p 3 then 3 else 4

/-- The zone that follows `cur` at a temperature, with the hysteresis of R264. -/
def nextLevel (p : List Word) (cur : Nat) (t : Int) : Nat :=
  let raw := rawZone p t
  let h : Int := profThys p * 10
  if cur < 2 ∧ cur < raw ∧ raw ≤ 2 then
    max cur (min raw ((if profT p 0 + h ≤ t then 1 else 0) + (if profT p 1 + h ≤ t then 1 else 0)))
  else if 2 < cur ∧ raw < cur ∧ 2 ≤ raw then
    min cur (max raw (2 + (if profT p 2 - h < t then 1 else 0) + (if profT p 3 - h < t then 1 else 0)))
  else raw

/-- The zone of a CHARGE step after `old`. -/
def nextZone (r p : List Word) (old : Zone) (t : Option Int) : Zone :=
  if chgTnone r then .normal
  else match t with
    | none => .invalid
    | some x => match old with
      | .invalid => zoneOf (rawZone p x)
      | z => zoneOf (nextLevel p z.code x)

/-! ### Targets (R257, R259) -/

/-- The factor of I_CHG in 1/256 that a phase runs at (R259). -/
def phaseK (r p : List Word) : Phase → Nat
  | .trickle => profItrk p
  | .pre => profIpre p
  | .term => if chgNimh r then profItop p else 256
  | _ => 256

/-- I_P in 10 µA (R259). -/
def phaseI (r p : List Word) (ph : Phase) : Int := chgI r * phaseK r p ph / 256

/-- The current of a phase in a zone in 10 µA, and the voltage clamp in 100 µV (R257, R264). -/
def chargeTargets (r p : List Word) (ph : Phase) (z : Zone) : Int × Nat × Nat :=
  let i := phaseI r p ph
  match z with
  | .normal => (i, chgSlew r, chgV r)
  | .cool => (i * profKcool p / 256, chgSlew r, chgV r)
  | .warm => (i * profKwarm p / 256, chgSlew r, chgV r - profDvwarm p)
  | _ => (0, 0, chgV r)

/-- Applies the targets of the present phase and zone (R257). -/
def State.chargeApply (s : State) (l : Nat) : State :=
  let c := s.chg l
  let (i, slew, v) := chargeTargets (s.eng l).recd c.prof c.phase c.zone
  let s := s.engTargets l 0 (unsigned 32 i) slew
  (s.engPut l (LANE_VCLMP_VCLMPH l) v).engPut l (LANE_ILIM_ILIMD l) 0

/-- Reports the suspension of the present zone. -/
def State.chargeShow (s : State) (l : Nat) : State := s.putB (LANE_CHGSTAT_SUSP l) (s.chg l).zone.suspends

/-! ### Entry and phase changes (R258, R259) -/

/-- A CHARGE step is entered with its profile (R258); VTRK = 0 disables TRICKLE (R255). -/
def State.chargeEnter (s : State) (l : Nat) (r p : List Word) : State :=
  let v := s.vCell l
  let ph : Phase := if chgNotrk r ∨ (profVpre p : Int) * 2000 ≤ v then .cc
    else if profVtrk p = 0 ∨ (profVtrk p : Int) * 2000 ≤ v then .pre else .trickle
  let temp := (s.lane l).meas.temp
  let z := nextZone r p .invalid temp
  let s := s.modChg l (fun _ => { Chg.reset with
    prof := p, phase := ph, zone := z, tRef := if profNhold p = 0 then temp else none
    lvl := bitsOf (s.get THM_LEVEL_LVL) (4 * bankOf l) 4 })
  let keep := s.flag (LANE_CHGSTAT_PTEXP l)
  let s := s.wr (LANE_CHGSTAT_ACT l).addr 0
  let s := ((s.putB (LANE_CHGSTAT_PTEXP l) keep).putB (LANE_CHGSTAT_NIMH l) (chgNimh r)).putB (LANE_CHGSTAT_ACT l) true
  (s.chargeApply l).chargeShow l

/-- A phase change (R259): timers and all qualification counts restart, and TERM records its cause. -/
def State.phaseTo (s : State) (l : Nat) (ph : Phase) (termc : Nat) : State :=
  let c := s.chg l
  let s := s.modChg l (fun x => { x with
    phase := ph, s := 0, frames := 0, qPh := 0, qMin := 0, qVlow := 0, lastIm := none, stall := 0, dirty := false
    vPk := none, ndvRun := 0, dtRun := 0, tMin := 0, tRef := if profNhold c.prof = 0 then (s.lane l).meas.temp else none })
  let s := s.modEng l (fun e => { e with c0 := 0, c1 := 0, cMax := 0, cMin := 0 })
  let s := s.put (LANE_CHGSTAT_STALLN l) 0
  let s := if ph = .term then s.put (LANE_CHGSTAT_TERMC l) termc else s
  if ph = .done then s else s.chargeApply l

/-- The phase that a termination leads to: TERM, or DONE at once with TTOP = 0 (R263). -/
def State.terminate (s : State) (l termc : Nat) : State × Bool :=
  let s := s.phaseTo l .term termc
  if profTtop (s.chg l).prof = 0 then (s.phaseTo l .done 0, true) else (s, false)

/-! ### One evaluated frame (R264 to R271) -/

/-- Phase time before the nickel trackers begin, in frames (R261, R262). -/
def holdFrames (p : List Word) : Nat := profNhold p * 6000000

/-- What a zone other than the present one does to the counts and the trackers (R260, R261, R265): a suspension zeroes every
qualification count, and the dT/dt minute begins anew when one ends. -/
def Chg.toZone (c : Chg) (z : Zone) (temp : Option Int) : Chg :=
  let c' := { c with zone := z, dirty := true, vPk := none, ndvRun := 0 }
  if z.suspends then { c' with qPh := 0, qMin := 0, qVlow := 0 }
  else if c.zone.suspends then
    { c' with dtRun := 0, tMin := 0, tRef := if holdFrames c.prof ≤ c.frames then temp else none }
  else c'

/-- The zone follows the temperature (R264, R265); answers whether it changed. -/
def State.zoneNow (s : State) (l : Nat) : State × Bool :=
  let c := s.chg l
  let temp := (s.lane l).meas.temp
  let z := nextZone (s.eng l).recd c.prof c.zone temp
  if z = c.zone then (s, false)
  else (s.modChg l (fun x => x.toZone z temp), true)

/-- The zone is updated, with its suspension and the restart of trackers (R264, R265, R260, R261). -/
def State.chargeZone (s : State) (l : Nat) : State :=
  let lvl := bitsOf (s.get THM_LEVEL_LVL) (4 * bankOf l) 4
  let s := if lvl = (s.chg l).lvl then s
    else s.modChg l (fun x => { x with lvl := lvl, dirty := true, vPk := none, ndvRun := 0 })
  let r := s.zoneNow l
  if r.2 then (r.1.chargeApply l).chargeShow l else r.1

/-- How far S advances in this frame (R267): 0 suspended, 2 at full rate, else 1. -/
def State.chargeRate (s : State) (l : Nat) : Nat :=
  let c := s.chg l
  let r := (s.eng l).recd
  let paused := s.bankPaused l
  if c.zone.suspends then 0
  else if c.phase = .cv ∨ (c.phase = .term ∧ !chgNimh r) then
    if c.zone = .cool ∨ c.zone = .warm ∨ paused ∨ s.flag (LANE_CHSTAT_GRANTLIM l) then 1 else 2
  else if chgI r * phaseK r c.prof c.phase * 100 ≤ 512 * s.iCh l ∧ !paused then 2 else 1

/-- The safety limit of a phase in frames; 0 for none (R267). -/
def phaseLimit (p : List Word) : Phase → Nat
  | .trickle => bitsOf (recW p 5) 0 16 * 100000
  | .pre => bitsOf (recW p 5) 16 16 * 100000
  | .cc => bitsOf (recW p 6) 0 16 * 6000000
  | .cv => bitsOf (recW p 6) 16 16 * 6000000
  | _ => 0

/-- Advances S and the phase time (R267); answers whether the phase timer expires in this frame (R268). -/
def State.chargeTimer (s : State) (l : Nat) : State × Bool :=
  let adv := s.chargeRate l
  let s := s.modChg l (fun x => { x with s := x.s + adv, frames := if adv = 0 then x.frames else x.frames + 1 })
  let s := s.putB (LANE_CHGSTAT_HALF l) (adv == 1)
  let c := s.chg l
  let lim := 2 * phaseLimit c.prof c.phase
  (s, decide (lim ≠ 0 ∧ adv ≠ 0 ∧ lim ≤ c.s))

/-- Counts a condition that is qualified as V. -/
def qual (b : Bool) (n : Nat) : Nat := if b then n + 1 else 0

/-- The counts of this frame's phase tests and of CHG_VLOW (R259, R260, R269); nothing while suspended (R271). -/
def State.chargeCount (s : State) (l : Nat) : State :=
  let c := s.chg l
  let r := (s.eng l).recd
  let v := s.vCell l
  if c.zone.suspends then s
  else
    let up := match c.phase with
      | .trickle => decide ((profVtrk c.prof : Int) * 2000 ≤ v)
      | .pre => decide ((profVpre c.prof : Int) * 2000 ≤ v)
      | .cc => !chgNimh r && s.get (LANE_CHSTAT_LIMSRC l) == 2
      | _ => false
    let late := c.phase == .cc || c.phase == .cv || c.phase == .term
    let vlow := late && profVtrk c.prof != 0 && decide (v < (profVtrk c.prof : Int) * 2000)
    let min' := decide (s.iCh l ≤ (chgTerm r : Int) * 10000)
    s.modChg l (fun x => { x with
      qPh := qual up x.qPh, qVlow := qual vlow x.qVlow
      qMin := if c.phase ≠ .cv ∨ chgTerm r = 0 then 0 else if s.uncounted l then x.qMin else qual min' x.qMin })

/-- CHG_VLOW has qualified (R269). -/
def State.chargeVlow (s : State) (l : Nat) : Bool :=
  !(s.chg l).zone.suspends && decide (s.tqual l ≤ (s.chg l).qVlow)

/-- The phase change that is due in this frame, with its TERMC (R259, R260, R263). -/
def State.phaseDue (s : State) (l : Nat) : Option (Phase × Nat) :=
  let c := s.chg l
  let q := s.tqual l
  if c.zone.suspends then none
  else match c.phase with
    | .trickle => if q ≤ c.qPh then some (.pre, 0) else none
    | .pre => if q ≤ c.qPh then some (.cc, 0) else none
    | .cc => if q ≤ c.qPh then some (.cv, 0) else none
    | .cv => if q ≤ c.qMin then some (.term, 1) else none
    | .term => if profTtop c.prof * 1000000 ≤ c.frames then some (.done, 0) else none
    | _ => none

/-- Makes the phase change; answers whether the step has come to DONE (R263). -/
def State.phaseMake (s : State) (l : Nat) (x : Phase × Nat) : State × Bool :=
  match x.1 with
  | .term => s.terminate l x.2
  | .done => (s.phaseTo l .done 0, true)
  | ph => (s.phaseTo l ph 0, false)

/-! ### Trackers (R260 to R262) -/

/-- A minute of CV phase time ends (R260); answers whether the taper terminates. -/
def State.taperMinute (s : State) (l : Nat) : State × Bool :=
  let c := s.chg l
  let r := (s.eng l).recd
  if c.phase ≠ .cv ∨ profTapr c.prof = 0 ∨ c.zone.suspends then (s, false)
  else
    let im := (s.healthy l).foldl (fun x n => x + meanOr (s.lane n).meas.iP ((s.lastSecond n).map (fun e => e.2))) 0
    let n := match c.lastIm with
      | none => c.stall
      | some old =>
        if c.dirty then c.stall
        else if (chgTerm r : Int) * 10000 < im ∧ old * (256 - (profTapr c.prof : Int)) ≤ im * 256 then c.stall + 1 else 0
    let s := s.modChg l (fun x => { x with lastIm := some im, dirty := false, stall := n })
    (s.put (LANE_CHGSTAT_STALLN l) n, decide (3 ≤ n))

/-- A second of a nickel CC phase ends (R261); answers whether −ΔV terminates. -/
def State.negdvSecond (s : State) (l : Nat) : State × Bool :=
  let c := s.chg l
  if c.phase ≠ .cc ∨ !chgNimh (s.eng l).recd ∨ c.zone.suspends then (s, false)
  else
    let v := s.meanVolt l
    match c.vPk with
    | none => ((s.modChg l (fun x => { x with vPk := some v, ndvRun := 0 })).put (LANE_CHGSTAT_NDV l) 0, false)
    | some pk =>
      let pk := max pk v
      let d := pk - v
      let hit := profDvneg c.prof ≠ 0 ∧ (profDvneg c.prof : Int) * 500 ≤ d
      let n := if hit then c.ndvRun + 1 else 0
      let s := s.modChg l (fun x => { x with vPk := some pk, ndvRun := n })
      (s.put (LANE_CHGSTAT_NDV l) (min 255 (d / 500).toNat), decide (3 ≤ n))

/-- A minute of a nickel CC phase ends (R262); answers whether dT/dt terminates. -/
def State.dtdtMinute (s : State) (l : Nat) : State × Bool :=
  let c := s.chg l
  let r := (s.eng l).recd
  if c.phase ≠ .cc ∨ !chgNimh r ∨ chgTnone r ∨ c.zone.suspends then (s, false)
  else
    let now := (s.lane l).meas.temp
    let n := match now, c.tRef with
      | some t, some old => if profDtdt c.prof ≠ 0 ∧ (profDtdt c.prof : Int) * 5 ≤ t - old then c.dtRun + 1 else 0
      | _, _ => c.dtRun
    (s.modChg l (fun x => { x with dtRun := n, tRef := now, tMin := 0 }), decide (2 ≤ n))

/-- Frames of a minute and of a second of phase time. -/
def minFrames : Nat := 6000000
def secFrames : Nat := 100000

/-- One frame of phase time for the dT/dt tracker: it begins with NHOLD minutes passed, and forms ΔT each minute from then on. -/
def State.dtdtFrame (s : State) (l : Nat) : State × Bool :=
  let c := s.chg l
  let hold := holdFrames c.prof
  if c.frames < hold then (s, false)
  else if c.frames = hold then (s.modChg l (fun x => { x with tRef := (s.lane l).meas.temp, tMin := 0, dtRun := 0 }), false)
  else if c.tMin + 1 < minFrames then (s.modChg l (fun x => { x with tMin := x.tMin + 1 }), false)
  else s.dtdtMinute l

/-- The trackers in one frame of a phase that is not suspended (R260 to R262): the TERMC of a termination, the −ΔV before the dT/dt. -/
def State.chargeTrack (s : State) (l : Nat) : State × Option Nat :=
  let c := s.chg l
  if c.zone.suspends then (s, none)
  else match c.phase with
    | .cv =>
      if c.frames % minFrames = 0 then let r := s.taperMinute l; (r.1, if r.2 then some 2 else none) else (s, none)
    | .cc =>
      if !chgNimh (s.eng l).recd then (s, none)
      else
        let a := if holdFrames c.prof < c.frames ∧ c.frames % secFrames = 0 then s.negdvSecond l else (s, false)
        let b := a.1.dtdtFrame l
        (b.1, if a.2 then some 3 else if b.2 then some 4 else none)
    | _ => (s, none)

end Sys2Proof.Machine
end

