-- ==== Sys2Proof/Machine/Engine.lean ====
section
/-!
DEFINITION. Sys2Proof/Machine/Engine.lean: the recipe engine (chapter 09).

`State.evaluate` is one channel's evaluation of cycles 100 to 399.  The rows that name a command, a step type or the end of a
count act through the same operations as the evaluation.
-/

namespace Sys2Proof.Machine

/-! ### Step records (R225 to R229) -/

/-- The eight words of record `i` (R225). -/
def State.record (s : State) (i : Nat) : List Word :=
  (List.range 8).map (fun k => s.recipeWord (0x40000 + 32 * (i % 8192) + 4 * k))

/-- A record read as a tone table, whose word 1 has reserved bits of its own (R8, R318). -/
def State.toneRecord (s : State) (i : Nat) : List Word :=
  let r := s.record i
  r.set 1 (r.getD 1 0 &&& 0x07FFFFFF)

def recTyp (r : List Word) : Nat := recW r 0 % 16
def recNxj (r : List Word) : Bool := bit (recW r 0) 4
def recJump (r : List Word) : Nat := bitsOf (recW r 0) 8 13
def recTfault (r : List Word) : Bool := bit (recW r 3) 28

/-- The step timer N = DUR × u in frames; 0 for none (R227, R242). -/
def recTimer (r : List Word) : Nat :=
  bitsOf (recW r 3) 0 24 * (match bitsOf (recW r 3) 24 3 with
    | 0 => 1 | 1 => 100 | 2 => 10000 | 3 => 100000 | _ => 6000000)

/-- Condition `k` (0 or 1). -/
def recCond (r : List Word) (k : Nat) : Nat := recW r (5 + k)
def condQty (c : Nat) : Nat := bitsOf c 0 4
def condCmp (c : Nat) : Nat := bitsOf c 4 3
def condAct (c : Nat) : Nat := bitsOf c 7 2
def condTh (c : Nat) : Int := signed 23 (bitsOf c 9 23)

/-- A table record (R551). -/
def isTable (r : List Word) : Bool := recW r 0 % 256 == 0 && recJump r == 0x1FFF

/-- The check byte fails while CHKEN = 1 (R227). -/
def State.chkBad (s : State) (r : List Word) : Bool := s.flag RCP_CFG_CHKEN && xorBytes (bytesOf r) != 0

/-- An invalid condition (R231). -/
def condBad (c : Nat) : Bool := decide (5 ≤ condCmp c) || (condCmp c != 0 && decide (13 ≤ condQty c))

/-- The QUAL of an invalid record at index `y`; 0 for a valid one (R231, R256, R319). -/
def State.badRecord (s : State) (l y : Nat) (r : List Word) : Nat :=
  let typ := recTyp r
  let tab := if typ = 7 then s.record (chgProf r) else s.toneRecord (bitsOf (recW r 2) 16 13)
  if s.chkBad r then 1
  else if isTable r then 0
  else if decide (5 ≤ bitsOf (recW r 3) 24 3) || condBad (recCond r 0) || condBad (recCond r 1) then 2
  else if typ = 11 ∧ y < recJump r then 3
  else if typ = 4 ∧ (recW r 1 = 0 ∨ bitsOf (recW r 2) 0 16 = 0) then 4
  else if typ = 8 ∧ (bitsOf (recW r 4) 0 15 = 0 ∨ bitsOf (recW r 4) 16 15 = 0) then 4
  else if (typ = 7 ∨ typ = 9) ∧ s.chkBad tab then 1
  else if typ = 7 ∧ chargeBad r tab then 4
  else if typ = 9 ∧ sweepBad l r tab then 4
  else 0

/-! ### Quantities (R229) -/

/-- One unit of a quantity's threshold at the quantity's full resolution. -/
def qtyScale : Nat → Int
  | 0 => 10
  | 1 => 10000
  | 2 => 100000000000
  | 4 => 3600000000000
  | 5 => 3600000000000000000
  | 6 => 10
  | 10 => 3600000000000
  | 11 => 3600000000000000000
  | _ => 1

/-- The quantity is qualified (R229). -/
def qtyQualified (q : Nat) : Bool := q == 0 || q == 1 || q == 2 || q == 6

/-- A comparison of R228. -/
def cmpHolds (cmp : Nat) (x t : Int) : Bool :=
  match cmp with
  | 1 => decide (t ≤ x)
  | 2 => decide (x ≤ t)
  | 3 => decide (t ≤ absI x)
  | 4 => decide (absI x ≤ t)
  | _ => false

/-- A quantity over control samples (V_CELL, I_CH), summed; `rel` holds where a regulating step gives the step-relative
quantities their reference.  None where the quantity has no value (R266, R304). -/
def State.qtySum (s : State) (l q : Nat) (xs : List (Int × Int)) (rel : Bool) : Option Int :=
  let e := s.eng l
  let m := (s.lane l).meas
  let n : Int := xs.length
  let sum (f : Int × Int → Int) : Int := xs.foldl (fun a p => a + f p) 0
  match q with
  | 0 => some (sum (fun p => p.1))
  | 1 => some (sum (fun p => p.2))
  | 2 => some (sum (fun p => p.1 * p.2))
  | 3 => m.temp.map (· * n)
  | 4 => some (if rel then (m.qAcc - e.qIn) * n else 0)
  | 5 => some (if rel then (m.eAcc - e.eIn) * n else 0)
  | 6 => some (if rel then sum (fun p => p.1 - e.vIn) else 0)
  | 7 => some (if rel then ((e.e / 100000 : Nat) : Int) * n else 0)
  | 8 => if s.flag (LANE_SOCSTAT_VALID l) then some ((s.get (LANE_SOCSTAT_SOC l) : Int) * n) else none
  | 9 => some (match e.loops with
    | [] => 0
    | t :: _ => (t.cnt : Int) * n)
  | 10 => some ((m.qAcc - e.mQ) * n)
  | 11 => some ((m.eAcc - e.mE) * n)
  | 12 => some (((s.localFrame - e.mFrame) / 100000 : Nat) * n)
  | _ => none

/-- A condition is true over control samples (R228, R229, R235). -/
def State.condTrue (s : State) (l c : Nat) (xs : List (Int × Int)) (rel : Bool) : Bool :=
  match s.qtySum l (condQty c) xs rel with
  | none => false
  | some x => cmpHolds (condCmp c) x (condTh c * qtyScale (condQty c) * xs.length)

/-! ### Ends, faults and masks (R244, R247, R248) -/

/-- `RSTAT.FIRED`: 0 limit, 1 timer, 2 T0, 3 T1, 4 intrinsic, 5 command or FORCED. -/
def State.fired (s : State) (l bits : Nat) : State := s.put (LANE_RSTAT_FIRED l) bits

/-- RUN = 0 as the engine applies it (R232, R248). -/
def State.engStop (s : State) (l : Nat) : State := (s.put (LANE_CHCTL_RUN l) 0).runZero l

/-- The program faults (R248); RESULT is left alone where `write` is false (R244). -/
def State.engFault (s : State) (l reason qual : Nat) (write : Bool) : State :=
  (s.progEnd l .faulted reason qual write).engStop l

/-- An END step, or a condition with ACT = END (R230, R244, R248). -/
def State.engEnd (s : State) (l : Nat) (keep : Bool) : State :=
  if s.flag (LANE_RSTAT_INFH l) then s.engFault l 0 0 false
  else
    let s := if keep then s.restTargets l else s
    let s := s.progEnd l .ended 1 0 true
    if keep then s else s.engStop l

/-- ABORT or host RUN = 0 (R247, R248). -/
def State.engAbort (s : State) (l qual : Nat) : State := (s.progEnd l .aborted 2 qual true).engStop l

/-- A forced SAFE ends the program (R241, R247). -/
def State.engForced (s : State) (l : Nat) : State :=
  let q := (s.eng l).forced
  s.engFault l 4 (if q = 0 then 7 else q) true

/-! ### Entering steps (R232, R233, R234 to R239) -/

/-- A regulating step is entered: its copy, its counts and its references (R226, R240, R242). -/
def State.regEnter (s : State) (l : Nat) (r : List Word) (st : ESt) : State :=
  let m := (s.lane l).meas
  let v := s.vCell l
  s.modEng l (fun e => { e with
    st := st, recd := r, e := 0, c0 := 0, c1 := 0, cMax := 0, cMin := 0, qIn := m.qAcc, eIn := m.eAcc, vIn := v
    hasRef := true, lvlB := false, lvlCnt := 0, entry := s.localFrame })

/-- An EIS step is entered (R320, R321, R327, R328). -/
def State.sweepEnter (s : State) (l : Nat) (r tab : List Word) : State :=
  let c := sweepCfg l r tab
  let d0 : Int := match c.base with
    | 1 => (eisBase r : Int) * 100
    | 2 => absI (s.iCh l)
    | _ => 0
  let ll : Int := (s.get (LANE_STOPCFG_LLCUR l) : Int) * 100000
  let want := if ll = 0 then 8 else max 1 (((d0 * 100 + c.p0) + (ll * 100 - 1)) / (ll * 100)).toNat
  let locked := s.get PTM_STAT_ST == 2
  let z := c.ks.map (fun _ => ((0, 0) : Int × Int))
  let s := s.modLane l (fun x => { x with swp := { Sweep.reset with
    cfg := c, settle := c.nset, vAcc := z, iAcc := z, vSum := z, iSum := z, vLast := z, iLast := z, act := want, ptref := locked
    bDem := x.chan.dem } })
  let s := s.wr (LANE_EISSTAT_RUN l).addr 0
  let s := if locked then s else s.ev pageEIS 4
  match c.base with
  | 1 => s.engTargets l 0 c.basesp 0
  | 2 => s.engTargets l 1 c.basesp 0
  | _ => s.restTargets l

/-- A step that keeps the targets in force: BARRIER with WAITMODE = 0 and HOLD with A[0] = 0 (R232). -/
def keepsTargets (r : List Word) : Bool :=
  (recTyp r == 13 && !bit (recW r 2) 0) || (recTyp r == 15 && !bit (recW r 1) 0)

/-- A regulating step's entry by its type (R230), the base values restored. -/
def State.regStep (s : State) (l : Nat) (r : List Word) : State :=
  let a := recW r 1
  let b := recW r 2
  let c := recW r 4
  let half := bitsOf b 0 16
  let clamp : Fld := if 0 < signed 32 a then LANE_VCLMP_VCLMPH l else LANE_VCLMP_VCLMPL l
  let s := s.regEnter l r (if recTyp r = 13 then .barrier else .run)
  match recTyp r with
  | 2 => s.engTargets l 0 a c
  | 3 =>
    let s := if half = 0 then s else s.engPut l (LANE_ILIM_ILIMC l) half
    let s := if bitsOf b 16 16 = 0 then s else s.engPut l (LANE_ILIM_ILIMD l) (bitsOf b 16 16)
    s.engTargets l 1 a c
  | 4 => (s.engPut l clamp half).engTargets l 0 a c
  | 5 => (if half = 0 then s else s.engPut l clamp half).engTargets l 2 a c
  | 6 => (if half = 0 then s else s.engPut l (LANE_VCLMP_VCLMPL l) half).engTargets l 3 a c
  | 7 => s.chargeEnter l r (s.record (chgProf r))
  | 8 => s.engTargets l 0 a 0
  | 9 => s.sweepEnter l r (s.toneRecord (bitsOf b 16 13))
  | 13 => (if keepsTargets r then s else s.restTargets l).ev pageRCP 5
  | 15 => if keepsTargets r then s else s.restTargets l
  | _ => s.restTargets l

/-- Pops loop entries whose range does not hold step `y` (R233). -/
def popLoops (y : Nat) : List LoopEnt → List LoopEnt
  | [] => []
  | t :: ts => if t.start ≤ y ∧ y ≤ t.owner then t :: ts else popLoops y ts

/-- The LOOP step of R234: the loop stack after it and the next index; none where a push meets a full stack. -/
def loopStep (x jump count : Nat) (st : List LoopEnt) : Option (List LoopEnt × Nat) :=
  let pushed : Option (LoopEnt × List LoopEnt) := match st with
    | t :: ts => if t.owner = x then some ({ t with cnt := min 65535 (t.cnt + 1) }, ts)
      else if 4 ≤ st.length then none else some (⟨x, jump, 1⟩, st)
    | [] => some (⟨x, jump, 1⟩, [])
  pushed.map (fun p =>
    if count = 0 ∨ p.1.cnt < count then (p.1 :: p.2, jump) else (p.2, (x + 1) % 8192))

/-- JUMPIF takes its jump (R235). -/
def State.jumpTaken (s : State) (l : Nat) (r : List Word) : Bool :=
  let c0 := recCond r 0
  let c1 := recCond r 1
  let xs (c : Nat) : List (Int × Int) :=
    if qtyQualified (condQty c) then (s.eng l).hist.take (s.tqual l) else [(s.vCell l, s.iCh l)]
  let t (c : Nat) : Bool := condCmp c != 0 && s.condTrue l c (xs c) (s.eng l).hasRef
  (condCmp c0 == 0 && condCmp c1 == 0) || t c0 || t c1

/-- The MARK step of R236. -/
def State.markStep (s : State) (l y : Nat) (r : List Word) : State :=
  let m := (s.lane l).meas
  let s := s.modEng l (fun e => { e with
    mQ := m.qAcc, mE := m.eAcc, mFrame := s.localFrame, rQ := m.qAcc, rE := m.eAcc, rFrame := s.frame
    markId := recW r 1 % 256, markStep := y })
  if bit (recW r 2) 0 then (s.setLaneBit 0x1844 0x1848 l).ev pageRCP 4 else s

/-- At each step entry the clamps and limits take their base values, control steps among them, unless the step keeps the targets in
force (R232, R257). -/
def State.entryBase (s : State) (l : Nat) (r : List Word) : State := if keepsTargets r then s else s.restoreBase l

/-- Enters step `y` (R233): the step after it where it is a control step that goes on at once.  Fields that a commit changed in an
earlier frame are the engine's again (R232). -/
def State.enterOnce (s : State) (l y : Nat) : State × Option Nat :=
  let y := y % 8192
  let s := s.modEng l (fun e => { e with loops := popLoops y e.loops, held := e.hostCm })
  let r := s.record y
  let typ := recTyp r
  let s := (s.put (LANE_RSTAT_STEP l) y).put (LANE_RSTAT_TYPE l) typ
  let s := s.modLane l (fun x => { x with rep := { x.rep with mark := x.rep.mark ||| 32 } })
  let bad := s.badRecord l y r
  if bad ≠ 0 then ((s.ev pageRCP 3).engFault l 8 bad true, none)
  else if typ = 7 ∧ chgNimh r ∧ !s.shadow.nimh then (s.engFault l 0x0C 7 true, none)
  else if typ = 9 ∧ !s.shadow.eis then (s.engFault l 0x0C 9 true, none)
  else
    let s := s.entryBase l r
    if isTable r then (s.engEnd l false, none)
    else if typ = 0 then (s.engEnd l (bit (recW r 1) 0), none)
    else if typ = 11 then
      match loopStep y (recJump r) (bitsOf (recW r 1) 0 16) (s.eng l).loops with
      | none => (s.engFault l 9 0 true, none)
      | some p => (s.modEng l (fun e => { e with loops := p.1 }), some p.2)
    else if typ = 12 then (s, some (if s.jumpTaken l r then recJump r else y + 1))
    else if typ = 14 then (s.markStep l y r, some (y + 1))
    else (s.regStep l r, none)

/-- Enters step `y` and the control steps that follow it; `n` is how many more entries this evaluation may make (R233). -/
def State.enterChain : Nat → Nat → Nat → State → State
  | 0, l, _, s => s.engFault l 0x0A 0 true
  | n + 1, l, y, s =>
    match s.enterOnce l y with
    | (t, some y') => State.enterChain n l y' t
    | (t, none) => t

/-- Enters a step at the start of an evaluation's chain. -/
def State.enter (s : State) (l y : Nat) : State :=
  State.enterChain 8 l y (s.modEng l (fun e => { e with next := none }))

/-! ### Outcomes (R241 to R244) -/

/-- The index that normal completion goes to (R241). -/
def State.normalNext (s : State) (l : Nat) : Nat :=
  let r := (s.eng l).recd
  if recNxj r then recJump r else (s.get (LANE_RSTAT_STEP l) + 1) % 8192

/-- Leaves the step for step `y` in this evaluation. -/
def State.goStep (s : State) (l y : Nat) : State := (s.stepLeave l).enter l y

/-- The step completes normally (R241); an OCV step hands its result to the estimator (R237, R301). -/
def State.complete (s : State) (l : Nat) (intrinsic : Bool) : State :=
  let r := (s.eng l).recd
  let y := s.normalNext l
  let s := if recTyp r = 10 then s.ocvEnded l (s.lane l).meas.vP (bitsOf (recW r 2) 0 16) intrinsic else s
  s.goStep l y

/-- A fault that the handler may take (R244). -/
def State.eligible (s : State) (l reason qual : Nat) : State :=
  if s.flag (LANE_RSTAT_INFH l) then s.engFault l reason qual false
  else if s.flag (LANE_RCFG_FHEN l) then
    let s := s.setResult l reason qual
    let s := (s.putB (LANE_RSTAT_INFH l) true).ev pageRCP 8
    (s.setLaneBit 0x183C 0x1840 l).goStep l (s.get (LANE_RCFG_FHIDX l))
  else s.engFault l reason qual true

/-- A step timer expires (R242, R244, R268). -/
def State.timerOut (s : State) (l : Nat) : State :=
  if recTfault (s.eng l).recd then (s.putB (LANE_CHGSTAT_PTEXP l) false).eligible l 6 0 else s.complete l false

/-- The phase timer expires (R268). -/
def State.phaseTimerOut (s : State) (l : Nat) : State :=
  (s.putB (LANE_CHGSTAT_PTEXP l) true).eligible l 6 (if s.flag (LANE_CHGSTAT_HALF l) then 1 else 0)

/-- The first safety limit that fires: 0 SVMAX, 1 SVMIN, 2 STMAX (R243, R266). -/
def State.limitFired (s : State) (l : Nat) : Option Nat :=
  let e := s.eng l
  let st := bitsOf (recW e.recd 7) 24 8
  if s.tqual l ≤ e.cMax then some 0
  else if s.tqual l ≤ e.cMin then some 1
  else if st = 0 then none
  else match (s.lane l).meas.temp with
    | none => some 2
    | some t => if (st : Int) * 50 < t then some 2 else none

/-- The counts of SVMAX and SVMIN (R243). -/
def State.limitCount (s : State) (l : Nat) : State :=
  let e := s.eng l
  let v := s.vCell l
  let hi := bitsOf (recW e.recd 7) 0 12
  let lo := bitsOf (recW e.recd 7) 12 12
  s.modEng l (fun x => { x with
    cMax := qual (hi != 0 && decide ((hi : Int) * 2000 < v)) x.cMax
    cMin := qual (lo != 0 && decide (v < (lo : Int) * 2000)) x.cMin })

/-- The count of one condition (R240). -/
def State.condCount (s : State) (l c n : Nat) : Nat :=
  let q := condQty c
  if condCmp c = 0 then 0
  else if (q = 1 ∨ q = 2) ∧ s.uncounted l then n
  else qual (s.condTrue l c [(s.vCell l, s.iCh l)] true) n

/-- A condition fires: a qualified one after TQUAL frames (R229, R240). -/
def State.condFires (s : State) (l c n : Nat) : Bool :=
  condCmp c != 0 && decide ((if qtyQualified (condQty c) then s.tqual l else 1) ≤ n)

/-- What one evaluation finds: the outcomes of R241. -/
structure Outcomes where
  limit : Option Nat
  phaseTimer : Bool
  timer : Bool
  vlow : Bool
  t0 : Bool
  t1 : Bool
  phase : Option (Phase × Nat)
  intrinsic : Bool
  deriving DecidableEq, Repr

/-- `RSTAT.FIRED` for a set of outcomes (R251). -/
def Outcomes.bits (o : Outcomes) : Nat :=
  (if o.limit.isSome || o.vlow then 1 else 0) + (if o.timer || o.phaseTimer then 2 else 0) + (if o.t0 then 4 else 0)
    + (if o.t1 then 8 else 0) + (if o.intrinsic then 16 else 0)

def Outcomes.none : Outcomes := ⟨.none, false, false, false, false, false, .none, false⟩

/-- The OCV step's first check is due when E reaches MINREST, or one second where MINREST is 0, and the others each second after it
(R237). -/
def ocvCheckAt (r : List Word) (e : Nat) : Bool :=
  let m := bitsOf (recW r 2) 0 16 * secFrames
  decide (0 < e) && decide (m ≤ e) && (e - m) % secFrames == 0

/-- The check of an OCV step holds: ΔV of the last second lies within STAB (R237). -/
def State.ocvStable (s : State) (l : Nat) : Bool :=
  let m := (s.lane l).meas
  let stab := bitsOf (recW (s.eng l).recd 1) 0 24
  match m.pHist.find? (fun e => e.1 + secFrames ≤ s.localFrame) with
  | none => false
  | some old => stab != 0 && decide (absI (m.vP - old.2.1) ≤ stab)

/-- The phase change that is due, the trackers' termination after the tests of R259. -/
def phaseOf (due : Option (Phase × Nat)) (term : Option Nat) : Option (Phase × Nat) :=
  match due with
  | some p => some p
  | none => term.map (fun c => (.term, c))

/-- One evaluated frame of a step (R240, R242, R271): counts advance, and the outcomes are found. -/
def State.outcomes (s : State) (l : Nat) : State × Outcomes :=
  let s := s.limitCount l
  let e := s.eng l
  if e.st = .paused then (s, { Outcomes.none with limit := s.limitFired l })
  else
    let r := e.recd
    let chgOn := decide (recTyp r = 7)
    let s := s.modEng l (fun x => { x with e := x.e + 1 })
    let s := if chgOn then s.chargeZone l else s
    let (s, pt) := if chgOn then s.chargeTimer l else (s, false)
    let s := if chgOn then s.chargeCount l else s
    let c0 := recCond r 0
    let c1 := recCond r 1
    let n0 := s.condCount l c0 e.c0
    let n1 := s.condCount l c1 e.c1
    let s := s.modEng l (fun x => { x with c0 := n0, c1 := n1 })
    let (s, trk) := if chgOn then s.chargeTrack l else (s, none)
    let ph := if chgOn then phaseOf (s.phaseDue l) trk else none
    let ocv := recTyp r == 10 && ocvCheckAt r (s.eng l).e && s.ocvStable l
    let done := ph.any (fun p => p.1 == .done || (p.1 == .term && profTtop (s.chg l).prof == 0))
    (s, { limit := s.limitFired l, phaseTimer := pt, timer := decide (recTimer r ≠ 0 ∧ recTimer r ≤ (s.eng l).e),
          vlow := chgOn && s.chargeVlow l, t0 := s.condFires l c0 n0, t1 := s.condFires l c1 n1, phase := ph,
          intrinsic := done || ocv || (recTyp r = 9 && (s.lane l).swp.done) })

/-- PULSE counts one frame at its level and changes level when the count completes (R238). -/
def State.pulseToggle (s : State) (l : Nat) : State :=
  let e := s.eng l
  let b := !e.lvlB
  let s := s.modEng l (fun x => { x with lvlB := b, lvlCnt := 0 })
  s.engTargets l 0 (recW e.recd (if b then 2 else 1)) 0

/-- The frames of a PULSE level (R238). -/
def pulseFrames (r : List Word) (b : Bool) : Nat :=
  let c := recW r 4
  if b then bitsOf c 16 15 * (if bit c 31 then 100 else 1) else bitsOf c 0 15 * (if bit c 15 then 100 else 1)

def State.pulseFrame (s : State) (l : Nat) : State :=
  let e := s.eng l
  if recTyp e.recd = 8 ∧ e.st = .run then
    if pulseFrames e.recd e.lvlB ≤ e.lvlCnt + 1 then s.pulseToggle l
    else s.modEng l (fun x => { x with lvlCnt := x.lvlCnt + 1 })
  else s

/-- Acts on the highest-ranked outcome of ranks 3 to 10 (R241). -/
def State.act (s : State) (l : Nat) (o : Outcomes) : State :=
  let r := (s.eng l).recd
  let on (k : Nat) : Bool := (o.t0 && condAct (recCond r 0) == k) || (o.t1 && condAct (recCond r 1) == k)
  let which (k : Nat) : Nat := if o.t0 && condAct (recCond r 0) == k then 0 else 1
  let f (t : State) : State := t.fired l o.bits
  match o.limit with
  | some q => (f s).eligible l 5 q
  | none =>
    if o.phaseTimer then (f s).phaseTimerOut l
    else if o.timer && recTfault r then (f s).timerOut l
    else if o.vlow then (f s).eligible l 0x10 0
    else if on 2 then (f s).eligible l 7 (which 2)
    else if on 3 then (f s).engEnd l false
    else if on 1 then (f s).goStep l (recJump r)
    else match o.phase with
      | some p =>
        let x := s.phaseMake l p
        if x.2 then (f x.1).complete l true else x.1
      | none =>
        if o.intrinsic then
          let s := if recTyp r = 9 then (s.setLaneBit 0xE4C 0xE50 l).ev pageEIS 0 else s
          (f s).complete l true
        else if on 0 then (f s).complete l false
        else if o.timer then (f s).timerOut l
        else s.pulseFrame l

/-- The program pauses in its present step: the targets in force are kept for RESUME, and REST targets apply with PAUSEMODE = 1
(R248). -/
def State.pauseHere (s : State) (l : Nat) : State :=
  let e := s.eng l
  let t := s.targetsNow l
  let s := s.modEng l (fun x => { x with st := .paused, prev := e.st, pauseT := t })
  let s := if recTyp e.recd = 9 then s.endSweep l else s
  if s.flag (LANE_RCFG_PAUSEMODE l) then
    ((s.modEng l (fun x => { x with held := [] })).restTargets l).modEng l (fun x => { x with held := e.held })
  else s

/-- A command or a release has chosen the next step: it is entered, and a pause of the same boundary applies to it (R241, R248,
R250). -/
def State.takeNext (s : State) (l y : Nat) : State :=
  let paused := (s.eng l).st == .paused
  let s := (s.modEng l (fun e => { e with next := none })).goStep l y
  let e := s.eng l
  if paused ∧ (e.st = .run ∨ e.st = .barrier) then s.pauseHere l else s

/-- One channel's evaluation (R240, R241, R248). -/
def State.evaluate (s : State) (l : Nat) : State :=
  let e := s.eng l
  let ch := (s.lane l).chan.st
  match e.st with
  | .starting =>
    if e.forced ≠ 0 then (s.fired l 32).engForced l
    else if e.abort ≠ 0 then (s.fired l 32).engAbort l (e.abort - 1)
    else if ch = .active then
      (s.modEng l (fun x => { x with st := .run, next := none, hasRef := false })).enter l (e.next.getD 0)
    else s
  | .run | .barrier | .paused =>
    let forced := e.forced ≠ 0 ∨ ch = .safe
    let look := e.next.isNone ∧ e.entry ≠ s.localFrame ∧ e.hasRef ∧ ch ≠ .hold
    let (s, o) := if look then s.outcomes l else (s, Outcomes.none)
    if forced then (s.fired l (o.bits + 32)).engForced l
    else if e.abort ≠ 0 then (s.fired l (o.bits + 32)).engAbort l (e.abort - 1)
    else match e.next with
      | some y => s.takeNext l y
      | none => if look then s.act l o else s
  | _ => s

/-- Acts on what a command left to the next evaluation, outside a boundary. -/
def State.settle (s : State) (l : Nat) : State :=
  let e := s.eng l
  if e.forced ≠ 0 ∨ e.abort ≠ 0 ∨ (e.next.isSome ∧ e.st ≠ .starting) then s.evaluate l else s

/-! ### Commands (R245, R248) -/

/-- A refused command (R245). -/
def State.cmdRej (s : State) : State := s.ev pageRCP 2

/-- START (R245, R248). -/
def State.cmdStart (s : State) (l : Nat) : State :=
  let ch := (s.lane l).chan.st
  if (s.eng l).st.running ∨ !bit (s.rd 0x1808).toNat 0 ∨ ch = .hold ∨ ch = .ramp then s.cmdRej
  else
    let m := (s.lane l).meas
    let base := s.targetsNow l
    let entry := s.get (LANE_RCTL_ENTRY l)
    let s := s.modEng l (fun e => { Eng.reset with
      st := .starting, base := base, mQ := m.qAcc, mE := m.eAcc, mFrame := s.localFrame, hostCm := e.hostCm, hist := e.hist
      ocvr := e.ocvr, markId := e.markId, markStep := e.markStep, rFrame := e.rFrame, rQ := e.rQ, rE := e.rE, next := some entry })
    let s := ((s.putB (LANE_RSTAT_INFH l) false).wr (LANE_RESULT_REASON l).addr 0).putB (LANE_CHGSTAT_PTEXP l) false
    let s := s.put (LANE_CHCTL_RUN l) 1
    match ch with
    | .safe => s.chanStart l
    | .closing => s
    | _ => (s.runOne l).modEng l (fun e => { e with st := .run })

/-- PAUSE (R245, R248). -/
def State.cmdPause (s : State) (l : Nat) : State :=
  if (s.eng l).st = .run ∨ (s.eng l).st = .barrier then s.pauseHere l else s.cmdRej

/-- RESUME of a paused program (R248): a CHARGE step's zone follows the temperature and its −ΔV tracking restarts (R261, R265, R277),
and the targets in force at PAUSE apply again with PAUSEMODE = 1. -/
def State.resumeTargets (s : State) (l : Nat) : State :=
  let e := s.eng l
  let t := e.pauseT
  let chgOn := recTyp e.recd = 7
  let s := if chgOn then (s.modChg l (fun x => { x with vPk := none, ndvRun := 0 })).zoneNow l |>.1 else s
  let s := if s.flag (LANE_RCFG_PAUSEMODE l) then
      ((s.modEng l (fun x => { x with held := [] })).engTargets l t.mode t.setpt t.slew).modEng l (fun x => { x with held := e.held })
    else s
  if chgOn then (s.chargeApply l).chargeShow l else s

/-- RESUME (R245). -/
def State.cmdResume (s : State) (l : Nat) : State :=
  let e := s.eng l
  if e.st = .paused then
    let s := s.modEng l (fun x => { x with st := e.prev })
    let s := if recTyp e.recd = 9 then s.sweepAgain l else s
    s.resumeTargets l
  else if e.st = .run ∧ recTyp e.recd = 15 then
    (s.fired l 48).modEng l (fun x => { x with next := some (s.normalNext l) })
  else s.cmdRej

/-- ABORT (R245). -/
def State.cmdAbort (s : State) (l : Nat) : State :=
  if (s.eng l).st.running then s.modEng l (fun x => { x with abort := 1 }) else s

/-- SKIP (R245). -/
def State.cmdSkip (s : State) (l : Nat) : State :=
  let e := s.eng l
  if (e.st = .run ∨ e.st = .barrier) then
    if e.next.isSome then s else (s.fired l 32).modEng l (fun x => { x with next := some (s.normalNext l) })
  else s.cmdRej

/-- GOTO (R235, R245). -/
def State.cmdGoto (s : State) (l : Nat) : State :=
  let e := s.eng l
  if e.st = .run ∨ e.st = .barrier ∨ e.st = .paused then
    let y := s.get (LANE_RCTL_ENTRY l)
    ((s.stepLeave l).fired l 32).modEng l (fun x => { x with st := .run, next := some y, hasRef := false })
  else s.cmdRej

/-- A command that applies to a channel; CMD returns to 0 (R245). -/
def State.command (s : State) (l cmd : Nat) : State :=
  let s := s.put (LANE_RCTL_CMD l) 0
  match cmd with
  | 1 => s.cmdStart l
  | 2 => s.cmdPause l
  | 3 => s.cmdResume l
  | 4 => s.cmdAbort l
  | 5 => s.cmdSkip l
  | 6 => s.cmdGoto l
  | _ => s

/-- RUN = 0 applied by host software (R241, R248). -/
def State.hostRunZero (s : State) (l : Nat) : State :=
  let e := s.eng l
  let s := s.runZero l
  if e.st = .starting ∧ e.forced = 0 then (s.fired l 32).progEnd l .aborted 2 1 true
  else if e.st.running then s.modEng l (fun x => { x with abort := 2 })
  else s

/-- Releases a group at a boundary (R239); 0xFFFF names every group (R528). -/
def State.releaseGroup (s : State) (g : Nat) : State :=
  let ls := s.leads.filter (fun l =>
    let e := s.eng l
    e.st == .barrier && e.next.isNone && (recW e.recd 1 % 65536 == g || g == 0xFFFF))
  if ls.isEmpty then s
  else (ls.foldl (fun t l => (t.fired l 0).modEng l (fun x => { x with next := some (t.normalNext l) })) s).ev pageRCP 6

/-! ### Editing recipe memory (R249) -/

/-- Copies the edit buffer to a record. -/
def State.editCopy (s : State) : State :=
  let ws := (List.range 8).map (fun k => s.rd (RCP_EBUF_DATA k).addr)
  ((s.setMemWords (0x40000 + 32 * s.get RCP_ESTAT_EIDX) ws).putB RCP_ESTAT_EPEND false).ev pageRCP 7

/-- A write of `RCP.ECMD`. -/
def State.ecmd (s : State) (data : Nat) : State :=
  if s.flag RCP_ESTAT_EPEND then s.cmdRej
  else
    let s := s.put RCP_ESTAT_EIDX (bitsOf data 0 13)
    if bit data 16 then s.putB RCP_ESTAT_EPEND true else s.editCopy

/-- A write of `RCP.BARREL` (R239). -/
def State.barrel (s : State) (data : Nat) : State := { s with rel := s.rel ++ [data % 65536] }

/-! ### Rows of the table -/

/-- A command row acts on the channel that a lead lane names. -/
def State.commandRow (s : State) (l cmd : Nat) : State :=
  if s.running ∧ s.enabled l ∧ s.isLead l then (s.command l cmd).settle l else s

def execCmdStart (lane : LaneNo) (s : State) : Host.Outcome State Fault Refusal := .next (s.commandRow lane.val 1)
def execCmdPause (lane : LaneNo) (s : State) : Host.Outcome State Fault Refusal := .next (s.commandRow lane.val 2)
def execCmdResume (lane : LaneNo) (s : State) : Host.Outcome State Fault Refusal := .next (s.commandRow lane.val 3)
def execCmdAbort (lane : LaneNo) (s : State) : Host.Outcome State Fault Refusal := .next (s.commandRow lane.val 4)
def execCmdSkip (lane : LaneNo) (s : State) : Host.Outcome State Fault Refusal := .next (s.commandRow lane.val 5)
def execCmdGoto (lane : LaneNo) (s : State) : Host.Outcome State Fault Refusal := .next (s.commandRow lane.val 6)

/-- A step row: control flow of a running program comes to step `y`, whose record is of the row's type. -/
def State.stepRow (s : State) (l y : Nat) (is : List Word → Bool) : State :=
  let e := (s.eng l).st
  if s.running ∧ s.enabled l ∧ s.isLead l ∧ (e = .run ∨ e = .barrier) ∧ is (s.record y) then s.goStep l y else s

/-- The record is a step record of type `t`. -/
def stepOf (t : Nat) (r : List Word) : Bool := recTyp r == t && !isTable r

def execStepEnd (lane : LaneNo) (y : BitVec 13) (s : State) : Host.Outcome State Fault Refusal :=
  .next (s.stepRow lane.val y.toNat (stepOf 0))
def execStepRest (lane : LaneNo) (y : BitVec 13) (s : State) : Host.Outcome State Fault Refusal :=
  .next (s.stepRow lane.val y.toNat (stepOf 1))
def execStepCc (lane : LaneNo) (y : BitVec 13) (s : State) : Host.Outcome State Fault Refusal :=
  .next (s.stepRow lane.val y.toNat (stepOf 2))
def execStepCv (lane : LaneNo) (y : BitVec 13) (s : State) : Host.Outcome State Fault Refusal :=
  .next (s.stepRow lane.val y.toNat (stepOf 3))
def execStepCccv (lane : LaneNo) (y : BitVec 13) (s : State) : Host.Outcome State Fault Refusal :=
  .next (s.stepRow lane.val y.toNat (stepOf 4))
def execStepCp (lane : LaneNo) (y : BitVec 13) (s : State) : Host.Outcome State Fault Refusal :=
  .next (s.stepRow lane.val y.toNat (stepOf 5))
def execStepCr (lane : LaneNo) (y : BitVec 13) (s : State) : Host.Outcome State Fault Refusal :=
  .next (s.stepRow lane.val y.toNat (stepOf 6))
def execStepCharge (lane : LaneNo) (y : BitVec 13) (s : State) : Host.Outcome State Fault Refusal :=
  .next (s.stepRow lane.val y.toNat (stepOf 7))
def execStepPulse (lane : LaneNo) (y : BitVec 13) (s : State) : Host.Outcome State Fault Refusal :=
  .next (s.stepRow lane.val y.toNat (stepOf 8))
def execStepEis (lane : LaneNo) (y : BitVec 13) (s : State) : Host.Outcome State Fault Refusal :=
  .next (s.stepRow lane.val y.toNat (stepOf 9))
def execStepOcv (lane : LaneNo) (y : BitVec 13) (s : State) : Host.Outcome State Fault Refusal :=
  .next (s.stepRow lane.val y.toNat (stepOf 10))
def execStepLoop (lane : LaneNo) (y : BitVec 13) (s : State) : Host.Outcome State Fault Refusal :=
  .next (s.stepRow lane.val y.toNat (stepOf 11))
def execStepJumpif (lane : LaneNo) (y : BitVec 13) (s : State) : Host.Outcome State Fault Refusal :=
  .next (s.stepRow lane.val y.toNat (stepOf 12))
def execStepBarrier (lane : LaneNo) (y : BitVec 13) (s : State) : Host.Outcome State Fault Refusal :=
  .next (s.stepRow lane.val y.toNat (stepOf 13))
def execStepMark (lane : LaneNo) (y : BitVec 13) (s : State) : Host.Outcome State Fault Refusal :=
  .next (s.stepRow lane.val y.toNat (stepOf 14))
def execStepHold (lane : LaneNo) (y : BitVec 13) (s : State) : Host.Outcome State Fault Refusal :=
  .next (s.stepRow lane.val y.toNat (stepOf 15))
def execTableRecordEntry (lane : LaneNo) (y : BitVec 13) (s : State) : Host.Outcome State Fault Refusal :=
  .next (s.stepRow lane.val y.toNat isTable)

/-- The engine of a lead is in a regulating step that is being evaluated (R240, R248). -/
def State.inStep (s : State) (l : Nat) : Bool :=
  let e := s.eng l
  let c := (s.lane l).chan.st
  s.running && s.enabled l && s.isLead l && (e.st == .run || e.st == .barrier) && e.hasRef && e.next.isNone && c != .hold && c != .safe

/-- A CHARGE step is being evaluated. -/
def State.inCharge (s : State) (l : Nat) : Bool := s.inStep l && recTyp (s.eng l).recd == 7

/-- A row that names the end of a count stands for the evaluation of the frame in which that count ends: `due` puts the count one
frame short of its end, and the evaluation ranks what it finds (R240, R241, R271; assumption 67). -/
def State.evalRow (s : State) (l : Nat) (due : State → State) : State :=
  if s.inStep l then (fun x => x.1.act l x.2) ((due s).outcomes l) else s

/-- `STEP_TIMER_EXPIRY`: E reaches N (R242). -/
def State.stepTimerExpiry (s : State) (l : Nat) : State :=
  let n := recTimer (s.eng l).recd
  if n = 0 then s else s.evalRow l (fun t => t.modEng l (fun e => { e with e := n - 1 }))

def execStepTimerExpiry (lane : LaneNo) (s : State) : Host.Outcome State Fault Refusal := .next (s.stepTimerExpiry lane.val)

/-- `PULSE_LEVEL_CHANGE`: the present level's count completes (R238). -/
def State.pulseLevelChange (s : State) (l : Nat) : State :=
  let e := s.eng l
  if recTyp e.recd = 8 then
    s.evalRow l (fun t => t.modEng l (fun x => { x with lvlCnt := pulseFrames e.recd e.lvlB - 1 }))
  else s

def execPulseLevelChange (lane : LaneNo) (s : State) : Host.Outcome State Fault Refusal := .next (s.pulseLevelChange lane.val)

/-- The step time one frame before the next check of an OCV step (R237). -/
def ocvBefore (r : List Word) (e : Nat) : Nat :=
  let m := bitsOf (recW r 2) 0 16 * secFrames
  if e < m then m - 1 else m + ((e - m) / secFrames + 1) * secFrames - 1

/-- `OCV_CHECK`: the next check of an OCV step (R237). -/
def State.ocvCheck (s : State) (l : Nat) : State :=
  let r := (s.eng l).recd
  if recTyp r = 10 then s.evalRow l (fun t => t.modEng l (fun e => { e with e := ocvBefore r e.e })) else s

def execOcvCheck (lane : LaneNo) (s : State) : Host.Outcome State Fault Refusal := .next (s.ocvCheck lane.val)

/-- An evaluation of a CHARGE step with its counts as `f` puts them. -/
def State.chargeRow (s : State) (l : Nat) (f : Chg → Chg) : State :=
  if recTyp (s.eng l).recd = 7 then s.evalRow l (fun t => t.modChg l f) else s

/-- The frame of phase time before the next multiple of `n` above `least`. -/
def phaseBefore (n least frames : Nat) : Nat := (max least frames / n + 1) * n - 1

def execTaperMinute (lane : LaneNo) (s : State) : Host.Outcome State Fault Refusal :=
  .next (s.chargeRow lane.val (fun c => { c with frames := phaseBefore minFrames 0 c.frames }))

def execNegdvSecond (lane : LaneNo) (s : State) : Host.Outcome State Fault Refusal :=
  .next (s.chargeRow lane.val (fun c => { c with frames := phaseBefore secFrames (holdFrames c.prof) c.frames }))

def execDtdtMinute (lane : LaneNo) (s : State) : Host.Outcome State Fault Refusal :=
  .next (s.chargeRow lane.val (fun c => { c with frames := max (holdFrames c.prof) c.frames, tMin := minFrames - 1 }))

/-- `TERM_DONE`: TTOP × 10 s of TERM phase time have passed (R263). -/
def State.termDone (s : State) (l : Nat) : State :=
  if (s.chg l).phase = .term then s.chargeRow l (fun c => { c with frames := max c.frames (profTtop c.prof * 1000000 - 1) }) else s

def execTermDone (lane : LaneNo) (s : State) : Host.Outcome State Fault Refusal := .next (s.termDone lane.val)

/-- `PHASE_TIMER_EXPIRY`: S reaches 2 × L (R268). -/
def State.phaseTimerExpiry (s : State) (l : Nat) : State :=
  let lim := 2 * phaseLimit (s.chg l).prof (s.chg l).phase
  if lim = 0 then s else s.chargeRow l (fun c => { c with s := max c.s (lim - 1) })

def execPhaseTimerExpiry (lane : LaneNo) (s : State) : Host.Outcome State Fault Refusal :=
  .next (s.phaseTimerExpiry lane.val)

/-! ### Contact loss (R272 to R275) -/

/-- Contact detection is armed on a lane (R272). -/
def State.contactArmed (s : State) (n : Nat) : Bool :=
  let lead := s.leadOf n
  let c := (s.lane lead).chan.st
  s.flag (LANE_CONTACT_CLEN lead) && (c == .active || c == .hold || c == .stopping || c == .ramp)
    && !s.flag (LANE_LSTAT_SHED n) && (s.lane n).modu.iso

/-- Contact loss is declared on lanes (R274): their channels are forced to SAFE and the estimators cleared (R294).  ORIGIN marks every
lane whose own condition acts in this cycle (R350). -/
def State.contactDeclare (s : State) (ns : List Nat) : State :=
  let own (m : Nat) : Bool := ns.contains m || s.overLane m
  let lost := s.leads.filter (fun l => ns.any (fun n => s.leadOf n == l))
  let s := ns.foldl (fun t n => t.ev (pageLANE n) 9) s
  lost.foldl (fun t l => (t.forceSafe l 1 1 true own).estClear l) s

/-- A contact loss of one lane, by its own path (R183). -/
def State.contactLost (s : State) (n : Nat) : State :=
  let lead := s.leadOf n
  let s := s.ev (pageLANE n) 9
  (s.forceSafe lead 1 1 true (fun m => m == n)).estClear lead

/-- `CLDIS` and `CLSTEP` in 10 pV; 0 acts as 1 (R278). -/
def State.clDis (s : State) (lead : Nat) : Int := (max 1 (s.get (LANE_CONTACT_CLDIS lead)) : Nat) * 1000000000
def State.clStep (s : State) (lead : Nat) : Int := (max 1 (s.get (LANE_CONTACT_CLSTEP lead)) : Nat) * 1000000000

/-- I_n × RFS in 10 pV (R273). -/
def State.forceDrop (s : State) (n : Nat) : Int := (s.lane n).meas.iS * s.get (LANE_CONTACT_RFS (s.leadOf n))

/-- Disagreement D held throughout the frame: V(CSN) − V(VSP) stayed between `lo` and `hi` in µV (R273). -/
def State.contactFrame (s : State) (n : Nat) (lo hi : Int) : Bool :=
  let d := s.clDis (s.leadOf n)
  let drop := s.forceDrop n
  s.contactArmed n && (decide (d < lo * 100000 - drop) || decide (hi * 100000 - drop < -d))

/-- The two comparators of a lane for V(CSN) and V(VSP) in µV: disagreement D and step S are both true (R273). -/
def State.contactBoth (s : State) (n : Nat) (csn vsp : Int) : Bool :=
  let lead := s.leadOf n
  decide (s.clDis lead < absI ((csn - vsp) * 100000 - s.forceDrop n))
    && decide (s.clStep lead < absI (csn * 100000 - (s.lane n).health.vRef))

/-- V_REF is loaded at cycle 1,000: the voltage control sample plus I_n × RFS (R273). -/
def State.loadVref (s : State) (n : Nat) : State :=
  let v := (s.lane n).meas.vS * 100000 + s.forceDrop n
  s.modLane n (fun x => { x with health := { x.health with vRef := v } })

/-- A follower's voltage sample lies too far from V_CELL (R275): the count after this sample. -/
def State.followerRun (s : State) (n : Nat) : Nat :=
  let lead := s.leadOf n
  if n ≠ lead ∧ s.contactArmed n ∧ s.clDis lead < absI ((s.lane n).meas.vS - s.vCell lead) * 100000 then (s.lane n).health.clRun + 1 else 0

/-- `CONTACT_LOST`: the force and sense terminals of a lane stand at `csn` and `vsp` µV for `cycles` CLK_SYS cycles; 40 in a row with D
and S true declare contact loss (R273, R274). -/
def State.contactSense (s : State) (n : Nat) (csn vsp : Int) (cycles : Nat) : State :=
  if !(s.running && s.contactArmed n) then s
  else
    let run := if s.contactBoth n csn vsp then (s.lane n).health.clCyc + cycles else 0
    let s := s.modLane n (fun x => { x with health := { x.health with clCyc := run } })
    if 40 ≤ run then s.contactLost n else s

def execContactLost (x : ContactIn) (s : State) : Host.Outcome State Fault Refusal :=
  .next (s.contactSense x.lane.val x.csn x.vsp x.cycles)

end Sys2Proof.Machine
end

