-- ==== Sys2Proof/Machine/Sweep.lean ====
section
/-!
DEFINITION. Sys2Proof/Machine/Sweep.lean: tone, demodulation and results of the impedance sweep (chapter 13).
-/

namespace Sys2Proof.Machine

def State.swp (s : State) (l : Nat) : Sweep := (s.lane l).swp
def State.modSwp (s : State) (l : Nat) (f : Sweep → Sweep) : State := s.modLane l (fun x => { x with swp := f x.swp })

/-- The tone is added (R324): the engine runs the EIS step and the channel is ACTIVE. -/
def State.toneOn (s : State) (l : Nat) : Bool :=
  s.inEis l && (s.eng l).st == .run && (s.lane l).chan.st == .active

/-- The tone of this frame in 1/256 of 100 nA (R323, R324), and `EISSTAT.RUN`. -/
def State.tone (s : State) (l : Nat) : Int := if s.toneOn l then toneSum (s.swp l).cfg s.frame * 2560000 else 0

/-- A boundary passes: what was marked in the frame before belongs to the window in hand (R326), and whether the tone ran in it. -/
def State.sweepHead (s : State) (l : Nat) : State :=
  let run := s.flag (LANE_EISSTAT_RUN l)
  s.modSwp l (fun w => { w with flags := w.flags ||| w.marks, marks := 0, live := run })

/-- `RUN` and `SETTLE` of this frame, after its evaluation (R332). -/
def State.sweepFrame (s : State) (l : Nat) : State :=
  let on := s.toneOn l
  if !on && !s.flag (LANE_EISSTAT_RUN l) then s
  else (s.putB (LANE_EISSTAT_RUN l) on).putB (LANE_EISSTAT_SETTLE l) (on && decide ((s.swp l).settle ≠ 0))

/-- The flags that this frame gives to the window it lies in (R326). -/
def State.frameFlags (s : State) (l : Nat) : Nat :=
  let src := s.get (LANE_CHSTAT_LIMSRC l)
  (if s.bankPaused l then 4 else 0) + (if s.flag (LANE_CHSTAT_GRANTLIM l) then 8 else 0) + (if src = 1 then 16 else 0)
    + (if src = 2 ∨ src = 3 then 32 else 0)

/-- OVR of the samples latched at this boundary (R326). -/
def State.sampleFlags (s : State) (l : Nat) : Nat :=
  if (s.healthy l).any (fun n => s.flag (LANE_MSTAT_OVRI n)) || s.flag (LANE_MSTAT_OVRV l) then 1 else 0

/-- Adds one sample, times sine and cosine, to a tone's sum (R325). -/
def demod (c : SweepCfg) (n : Nat) (x : Int) (acc : List (Int × Int)) : List (Int × Int) :=
  (List.range c.ks.length).map (fun i =>
    let a := acc.getD i (0, 0)
    let p := tonePhase c i n
    (a.1 + x * sinTurn p, a.2 + x * cosTurn p))

/-- Sums of two lists of tone sums. -/
def addTones (a b : List (Int × Int)) : List (Int × Int) := List.zipWith (fun p q => (p.1 + q.1, p.2 + q.2)) a b

/-- V / I in µΩ, as (real, imaginary) 32-bit numbers; V in µV, I in 100 nA (R325, R327).  Where the current sum is zero the spec
states no quotient, and the words are free (`Config.zeroCurrent`). -/
def impedance (v i : Int × Int) : Word × Word :=
  let d := i.1 * i.1 + i.2 * i.2
  if d = 0 then (Config.zeroCurrent 0, Config.zeroCurrent 1)
  else
    let re := v.1 * i.1 + v.2 * i.2
    let im := v.2 * i.1 - v.1 * i.2
    let w (x : Int) : Word := BitVec.ofInt 32 (satI 32 (divAway (x * 10000000) d))
    (w re, w im)

/-- |X| of a tone sum in its unit times `k`, over a window (R325). -/
def toneMag (x : Int × Int) (win k : Nat) : Nat :=
  Nat.sqrt ((x.1 * x.1 + x.2 * x.2).toNat * (2 * k) ^ 2) / (2 ^ 48 * max 1 win)

/-- Another staggered or plain sweep of another window length runs next to this one (R329). -/
def State.stagMixed (s : State) (l : Nat) : Bool :=
  (s.swp l).cfg.stag && s.leads.any (fun m => m != l && (m / 16 == l / 16) && s.inEis m && (s.swp m).cfg.win != (s.swp l).cfg.win)

/-- Reports the window that closes at this boundary (R326, R327). -/
def State.windowReport (s : State) (l : Nat) : State :=
  let w := s.swp l
  let frz := s.frz pageEIS
  let s := (s.put (LANE_EISSTAT_FLAGS l) w.flags).modSwp l (fun x => { x with wflags := w.flags, winEnd := s.frame })
  if w.settle ≠ 0 then s.modSwp l (fun x => { x with settle := x.settle - 1 })
  else if w.flags &&& 0xBF = 0 then
    let n := w.nval + 1
    let s := s.modSwp l (fun x => { x with
      nval := n, nshow := if frz then x.nshow else min 255 n, vSum := addTones x.vSum x.vAcc, iSum := addTones x.iSum x.iAcc
      vLast := x.vAcc, iLast := x.iAcc, done := x.done || decide (w.cfg.nwin ≠ 0 ∧ w.cfg.nwin ≤ n) })
    let s := (s.put (LANE_EISSTAT_NVAL l) (min 255 n)).putB (LANE_EISSTAT_RESOK l) true
    (s.setLaneBit 0xE54 0xE58 l).ev pageEIS 1
  else (s.modSwp l (fun x => { x with ninv := if frz then x.ninv else min 255 (x.ninv + 1) })).ev pageEIS 2

/-- The sample of this frame enters the window in hand (R325, R326). -/
def State.sweepSample (s : State) (l : Nat) : State :=
  let f := s.sampleFlags l
  s.modSwp l (fun w =>
    if w.live ∧ w.whole then { w with
      n := w.n + 1, flags := w.flags ||| f
      vAcc := demod w.cfg s.frame (s.vCell l) w.vAcc
      iAcc := demod w.cfg s.frame (s.iCh l) w.iAcc }
    else w)

/-- A window boundary passes: the window in hand is reported, and a new one begins where the tone goes on (R324, R326, R327, R329). -/
def State.windowTurn (s : State) (l : Nat) (on : Bool) : State :=
  let w := s.swp l
  let s := if w.live ∧ w.whole ∧ w.n ≠ 0 then s.windowReport l else s
  let z := w.cfg.ks.map (fun _ => ((0, 0) : Int × Int))
  let s := s.modSwp l (fun x => { x with
    whole := on, n := 0, flags := 0, vAcc := z, iAcc := z
    ptref := x.ptref || (on && s.get PTM_STAT_ST == 2) })
  let s := s.putB (LANE_EISSTAT_SETTLE l) (on && decide ((s.swp l).settle ≠ 0))
  if on && s.stagMixed l then s.ev pageEIS 3 else s

/-- The lock-in of one frame, once (R324 to R327): a tone that stops leaves its partial window. -/
def State.sweepAccumulate (s : State) (l : Nat) : State :=
  let on := s.toneOn l
  let w := s.swp l
  let now := s.localFrame + 1
  if (!on && !w.live) || w.seen == now then s
  else
    let f := s.frameFlags l
    let s := (s.sweepSample l).modSwp l (fun x => { x with seen := now })
    let s := if s.frame % max 1 w.cfg.win = 0 then s.windowTurn l on
      else s.modSwp l (fun x => if on then x else { x with whole := false, n := 0, flags := 0 })
    s.modSwp l (fun x => { x with flags := x.flags ||| x.marks ||| f, marks := 0 })

/-- `EIS_WINDOW_CLOSE`: the lock-in of a frame that closes a window; `GRANT_APPLY` makes it where it has not been made (R324, R327). -/
def State.windowClose (s : State) (l : Nat) : State :=
  if s.running ∧ s.enabled l ∧ s.isLead l ∧ s.frame % max 1 (s.swp l).cfg.win = 0 then s.sweepAccumulate l else s

def execEisWindowClose (lane : LaneNo) (s : State) : Host.Outcome State Fault Refusal := .next (s.windowClose lane.val)

/-! ### The shown channel and tone (R333) -/

/-- The sweep words 0x24 to 0x48 of a channel and a tone, by offset. -/
def State.eisWord (s : State) (l t off : Nat) : Word :=
  let w := s.swp l
  let o (n : Nat) : Word := BitVec.ofNat 32 n
  let p (xs : List (Int × Int)) : Int × Int := xs.getD t (0, 0)
  let shown := t < w.cfg.ks.length
  match off with
  | 0x24 => o ((s.rd (LANE_EISSTAT_RUN l).addr).toNat % 4 + (if w.cfg.stag then 4 else 0) + (if w.ptref then 8 else 0)
      + w.cfg.ks.length * 16 + (if w.cfg.ks.isEmpty then 0 else stagSlot l * 256) + w.nshow * 65536 + w.ninv * 2 ^ 24)
  | 0x28 => if w.cfg.ks.isEmpty then 0 else o (w.cfg.win + w.wflags * 2 ^ 24)
  | 0x2C => o w.winEnd
  | 0x30 => if shown then o (w.cfg.ks.getD t 0 + w.cfg.amps.getD t 0 * 65536) else 0
  | 0x34 => if shown ∧ w.nval ≠ 0 then (impedance (p w.vSum) (p w.iSum)).1 else 0
  | 0x38 => if shown ∧ w.nval ≠ 0 then (impedance (p w.vSum) (p w.iSum)).2 else 0
  | 0x3C => if shown ∧ w.nval ≠ 0 then (impedance (p w.vLast) (p w.iLast)).1 else 0
  | 0x40 => if shown ∧ w.nval ≠ 0 then (impedance (p w.vLast) (p w.iLast)).2 else 0
  | 0x44 => o (toneMag (p w.iLast) w.cfg.win 1 / 10)
  | 0x48 => o (toneMag (p w.vLast) w.cfg.win 100)
  | _ => 0

/-- The word at an offset of the EIS page, for the channel and tone that `SEL` names; zero for a follower (R333). -/
def State.eisShown (s : State) (off : Nat) : Word :=
  let l := s.get EIS_SEL_LANE
  if s.enabled l ∧ s.isLead l then s.eisWord l (s.get EIS_SEL_TONE) off else 0

/-- A read of `ZRE`: the word, and the machine with 0x38 to 0x48 latched for the initiator (R333). -/
def State.zreRead (s : State) (i : Init) : Word × State :=
  let offs := [0x38, 0x3C, 0x40, 0x44, 0x48]
  (s.eisShown 0x34, s.latch i (fun a => offs.any (fun o => a == 0xE00 + o)) (offs.map (fun o => (0xE00 + o, s.eisShown o))))

end Sys2Proof.Machine
end

