-- ==== Sys2Proof/Machine/Telemetry.lean ====
section
/-!
DEFINITION. Sys2Proof/Machine/Telemetry.lean: report periods, channel reports, delivery and last-fault views (chapter 14).
-/

namespace Sys2Proof.Machine

def State.modRep (s : State) (l : Nat) (f : Report → Report) : State := s.modLane l (fun x => { x with rep := f x.rep })
def State.modTlm (s : State) (f : Tlm → Tlm) : State := { s with tlm := f s.tlm }

/-! ### The frames of a period (R342, R343, R345) -/

/-- Flags A that this frame adds (R344). -/
def State.frameFla (s : State) (l : Nat) : Nat :=
  (if (s.lane l).chan.st = .safe then 16 else 0) + (if s.bankPaused l then 32 else 0)
    + (if s.flag (LANE_CHSTAT_GRANTLIM l) then 64 else 0) + (if s.get (LANE_CHSTAT_LIMSRC l) = 0 then 0 else 128)

/-- Adds the frame's control samples, and a temperature update of its boundary, to the report of channel `l`. -/
def State.reportFrame (s : State) (l : Nat) : State :=
  let v := s.vCell l
  let i := (s.lane l).meas.iFrm
  let p := (s.lane l).meas.eFrm
  let fl := s.frameFla l
  let t := (s.lane l).meas.temp
  let upd := s.frame % 100 = 0
  s.modRep l (fun r =>
    let hi (old x : Int) : Int := if r.nfr = 0 then x else max old x
    let lo (old x : Int) : Int := if r.nfr = 0 then x else min old x
    let r := { r with
      nfr := r.nfr + 1, vSum := r.vSum + v, iSum := r.iSum + i, pSum := r.pSum + p
      vMax := hi r.vMax v, vMin := lo r.vMin v, iMax := hi r.iMax i, iMin := lo r.iMin i
      pMax := hi r.pMax p, pMin := lo r.pMin p
      fla := r.fla ||| fl }
    if !upd then r
    else match t with
      | none => { r with tInv := true }
      | some x => { r with tSum := r.tSum + x, tCnt := r.tCnt + 1, tMax := if r.tCnt = 0 then x else max r.tMax x })

/-- Adds the frame to the sums of the device (R345). -/
def State.deviceFrame (s : State) : State :=
  let i := s.leads.foldl (fun x l => x + (s.lane l).meas.iFrm) (0 : Int)
  let p := s.leads.foldl (fun x l => x + (s.lane l).meas.eFrm) (0 : Int)
  let vb : Int := (s.get BUS_VBUS_VB : Int)
  let ts := if s.frame % 100 = 0 then s.leads.filterMap (fun l => (s.lane l).meas.temp) else []
  s.modTlm (fun t =>
    let hi (old x : Int) : Int := if t.nfr = 0 then x else max old x
    let lo (old x : Int) : Int := if t.nfr = 0 then x else min old x
    { t with
      nfr := t.nfr + 1, iSum := t.iSum + i, pSum := t.pSum + p, iMax := hi t.iMax i, iMin := lo t.iMin i
      pMax := hi t.pMax p, pMin := lo t.pMin p, vbSum := t.vbSum + vb, vbMax := hi t.vbMax vb, vbMin := lo t.vbMin vb
      tMax := ts.foldl (fun m x => some (match m with | none => x | some y => max x y)) t.tMax })

/-- One frame of the period, for every channel and the device. -/
def State.telemetryFrame (s : State) : State := if s.tlm.on then (s.leads.foldl State.reportFrame s).deviceFrame else s

/-- Cycle 0 of a boundary: marks of the frame before count for it (R344), and the step state is noted (R342). -/
def State.reportMarks (s : State) : State :=
  s.leads.foldl (fun t l => t.modRep l (fun r => { r with
    flb := r.flb ||| r.mark, mark := 0, fla := r.fla ||| (if r.safed then 16 else 0), safed := false, stepW := s.stepWord l })) s

/-! ### Periods (R335 to R339) -/

/-- The PER that a period starting now takes (R335, R354). -/
def State.perNow (s : State) : Nat := min 100000 (max 25 (s.get TLM_PER_PER))

/-- nb(S) (R335). -/
def nominal (per start : Nat) : Nat := (start / per + 1) * per

/-- E_p (R336). -/
def plannedEnd (per start : Nat) : Nat := max (nominal per start) (start + (3 * per + 3) / 4)

/-- A report that starts at the present boundary; the totals go on (R343). -/
def freshReport (r : Report) (pt step : Nat) (gap : Bool) : Report :=
  { Report.reset with
    startPt := pt, gap := gap, mark := r.mark, safed := r.safed, stepW := step
    qTot := r.qTot, eTot := r.eTot, qStart := r.qTot / 1000, eStart := r.eTot / 1000000000000 }

/-- A period starts at the present boundary (R335 to R337, R353), after the values committed there.  It carries GAP unless the period
before ended at this boundary; a report that a grouping change or a CHAN reset restarted at this boundary carries it too. -/
def State.periodStart (s : State) : State :=
  let f := s.frame
  let gap := s.tlm.ended != some f
  let per := s.perNow
  let chen := s.laneBits 0xF30 0xF34
  let was := s.tlm.chen
  let s := s.leads.foldl (fun t l => t.modRep l (fun r => 
    freshReport r (f * 10000) r.stepW (gap || !was.testBit l || (r.gap && r.nfr == 0 && r.startPt == f * 10000)))) s
  let s := s.modTlm (fun t => { t with
    on := true, start := f, startPt := f * 10000, per := per, nfr := 0, chen := chen, gap := gap, ended := none
    iSum := 0, pSum := 0, iMax := 0, iMin := 0, pMax := 0, pMin := 0, vbSum := 0, vbMax := 0, vbMin := 0, tMax := none })
  s.put TLM_NEXTEND_FRAME (plannedEnd per f)

/-- The next period starts where the one before has ended, and the first one after a release, after `EN` or after DEEP_SLEEP (R335,
R337, R353). -/
def State.periodNext (s : State) : State :=
  if s.tlm.on || !s.flag (⟨0xF08, 0, 1⟩ : Fld) || !s.running || s.mode == .deepSleep then s else s.periodStart

/-- A channel starts its report afresh at a grouping change or a CHAN reset (R340, R343). -/
def State.reportRestart (s : State) (l : Nat) : State :=
  let w := s.stepWord l
  s.modRep l (fun r => freshReport { r with qTot := 0, eTot := 0 } (s.frame * 10000) w true)

/-! ### Reports and headers (R341, R342, R345) -/

/-- A value in a `w`-bit signed field, and whether it was saturated. -/
def fitS (w : Nat) (x : Int) : Nat × Bool := (unsigned w (satI w x), decide (satI w x ≠ x))

/-- A value in a `w`-bit unsigned field, and whether it was saturated. -/
def fitU (w x : Nat) : Nat × Bool := (min x (2 ^ w - 1), decide (2 ^ w ≤ x))

/-- The rounded figures of a report: averages, deltas, peaks and temperatures, in the units and order of R341. -/
structure Figures where
  vAvg : Int
  iAvg : Int
  pAvg : Int
  dq : Int
  de : Int
  vMax : Int
  vMin : Int
  iMax : Int
  iMin : Int
  pMax : Int
  pMin : Int
  tAvg : Int
  tMax : Int
  deriving DecidableEq, Repr

/-- Rounds a report's sums (R342). -/
def figures (r : Report) (latest : Option Int) : Figures :=
  let n : Int := max 1 (r.nfr : Int)
  let old := latest.getD (-32768)
  { vAvg := divAway r.vSum n, iAvg := divAway r.iSum (n * 100), pAvg := divAway r.pSum (n * 1000000000)
    dq := r.qTot / 1000 - r.qStart, de := r.eTot / 1000000000000 - r.eStart
    vMax := divAway r.vMax 200, vMin := divAway r.vMin 200, iMax := divAway r.iMax 100000, iMin := divAway r.iMin 100000
    pMax := divAway r.pMax 100000000000, pMin := divAway r.pMin 100000000000
    tAvg := if r.tCnt ≠ 0 then divAway r.tSum r.tCnt else if r.tInv then -32768 else old
    tMax := if r.tCnt ≠ 0 then r.tMax else if r.tInv then -32768 else old }

/-- A 64-byte channel report (R341), for a period of length `per` with the given lag. -/
def State.reportWords (s : State) (l rseq per lag : Nat) (noref : Bool) : List Word :=
  let r := (s.lane l).rep
  let g := figures r (s.lane l).meas.temp
  let b (x : Bool) (n : Nat) : Nat := if x then n else 0
  let (nfr, c0) := fitU 24 r.nfr
  let (dur, c1) := fitU 32 (r.nfr * 10000)
  let (v, c2) := fitS 32 g.vAvg
  let (i, c3) := fitS 32 g.iAvg
  let (p, c4) := fitS 32 g.pAvg
  let (dq, c5) := fitS 48 g.dq
  let (de, c6) := fitS 48 g.de
  let h (x y : Int) : Nat × Bool := ((fitS 16 x).1 + (fitS 16 y).1 * 65536, (fitS 16 x).2 || (fitS 16 y).2)
  let (pv, c7) := h g.vMax g.vMin
  let (pi, c8) := h g.iMax g.iMin
  let (pp, c9) := h g.pMax g.pMin
  let (tt, c10) := h g.tAvg g.tMax
  let sat := c0 || c1 || c2 || c3 || c4 || c5 || c6 || c7 || c8 || c9 || c10
  let fla := r.fla + b (decide (0 < lag)) 1 + b (decide (r.nfr < per)) 2 + b r.gap 4 + b noref 8
  let flb := r.flb ||| (b r.tInv 4 + b (!r.tInv && r.tCnt == 0) 8 + b (s.flag (LANE_CHSTAT_DERATED l)) 64 + b sat 128)
  [ l + s.get (LANE_LSTAT_W l) * 64 + rseq * 256 + fla * 2 ^ 24, nfr + flb * 2 ^ 24,
    r.startPt % 2 ^ 32, r.startPt / 2 ^ 32 % 2 ^ 32, dur, v, i, p,
    dq % 2 ^ 32, dq / 2 ^ 32 + de % 65536 * 65536, de / 65536, pv, pi, pp, tt, r.stepW ].map (BitVec.ofNat 32)

/-- The 64-byte period header (R345). -/
def State.reportHeader (s : State) (rseq lag nrep skip : Nat) (noref : Bool) : List Word :=
  let t := s.tlm
  let n : Int := max 1 (t.nfr : Int)
  let b (x : Bool) (k : Nat) : Nat := if x then k else 0
  let w (x : Int) : Nat := (fitS 32 x).1
  let vb (x : Int) : Nat := x.toNat % 65536
  let fla := b (decide (0 < lag)) 1 + b (decide (t.nfr < t.per)) 2 + b t.gap 4 + b noref 8
  [ 255 + rseq * 256 + fla * 2 ^ 24, (fitU 24 t.nfr).1 + nrep * 2 ^ 24,
    t.startPt % 2 ^ 32, t.startPt / 2 ^ 32 % 2 ^ 32, (fitU 32 (t.nfr * 10000)).1, s.link.addr % 2 ^ 18,
    w (divAway t.iSum (n * 100)), w (divAway t.pSum (n * 1000000000)),
    w (divAway t.iMax 100), w (divAway t.iMin 100), w (divAway t.pMax 1000000000), w (divAway t.pMin 1000000000),
    (fitS 16 (t.tMax.getD (-32768))).1 + (fitU 16 skip).1 * 65536, vb (divAway t.vbSum n) + vb t.vbMax * 65536, vb t.vbMin,
    0 ].map (BitVec.ofNat 32)

/-! ### Delivery (R346 to R348) -/

/-- Unread ring entries (R346). -/
def State.ringFill (s : State) : Nat := (s.get TLM_WCNT_WCNT + 65536 - s.get TLM_RCNT_RCNT) % 65536

/-- Writes a period to the ring (R346, R347). -/
def State.ringWrite (s : State) (entries : List (List Word)) : State :=
  let n := entries.length
  if !s.flag TLM_CFG_RINGEN then s
  else if s.flag TLM_CFG_STOP ∧ 1024 < n + min 1024 s.ringFill then
    (s.count (s.frz pageTLM) TLM_CNT2_RINGDROP).raise pageTLM 0x11
  else
    let k0 := s.get TLM_WCNT_WCNT
    let s := (List.range n).foldl (fun t j => t.setMemWords (0x180000 + 64 * ((k0 + j) % 1024)) (entries.getD j [])) s
    let s := s.countMod TLM_WCNT_WCNT n
    let ovr := !s.flag TLM_CFG_STOP && decide (1024 < s.ringFill)
    s.raise pageTLM (if ovr then 9 else 1)

/-- The oldest draining half is released, its entries abandoned (R338). -/
def State.tlmAbandon (s : State) : State :=
  if s.tlm.drain.isEmpty then s
  else ((s.modTlm (fun t => { t with drain := t.drain.drop 1 })).count (s.frz pageTLM) TLM_CNT2_LINKDROP).ev pageTLM 5

/-- Every draining half is released, its entries abandoned (R353). -/
def State.tlmAbandonAll (s : State) : State := s.tlm.drain.foldl (fun t _ => t.tlmAbandon) s

/-- The WR that carries one entry (R348, R508): its destination follows TLMDEST (R496). -/
def State.telemetryPacket (s : State) (entry : List Word) (k : Nat) : Packet :=
  let dest := s.get TLM_DEST_DEST
  let group := s.link.tlmMode = 2
  let w1 := if s.link.tlmMode = 0 then dest
    else if group then dest % 4096 + bitsOf s.link.addr 14 4 * 2 ^ 12 + bitsOf s.link.addr 6 8 * 2 ^ 16
    else 2 ^ 18 + s.link.addr / 64 * 64
  { blankPacket with
    typ := 2, mc := group, dlen := 16, w1 := BitVec.ofNat 32 w1
    addr := BitVec.ofNat 24 (s.get TLM_DADDR_DADDR + 64 * (k % 1024)), data := entry }

/-- The transaction layer accepts the last entries of the oldest draining half, and the half is released (R338, R348). -/
def State.tlmRelease (s : State) : State :=
  match s.tlm.drain with
  | [] => s
  | h :: rest =>
    let k0 := s.get TLM_WCNT_LCNT
    let n := h.2.length
    let s := (List.range n).foldl (fun t j => t.send (s.telemetryPacket (h.2.getD j []) (k0 + j))) s
    (s.countMod TLM_WCNT_LCNT n).modTlm (fun t => { t with drain := rest })

/-! ### The end of a period (R338, R339, R349) -/

/-- Folds a sealed report into what the page shows (R349): averages always, held peaks unless they are frozen. -/
def viewSeal (v : TlmView) (g : Figures) (frz : Bool) : TlmView :=
  let c (x : Int) : Int := satI 16 x
  let v := { v with vAvg := satI 32 g.vAvg, iAvg := satI 32 g.iAvg, pAvg := satI 32 g.pAvg, tAvg := c g.tAvg, tMax := c g.tMax }
  if frz then v
  else { v with
    pkVMax := max v.pkVMax (c g.vMax), pkVMin := min v.pkVMin (c g.vMin), pkIMax := max v.pkIMax (c g.iMax)
    pkIMin := min v.pkIMin (c g.iMin), pkPMax := max v.pkPMax (c g.pMax), pkPMin := min v.pkPMin (c g.pMin)
    pkTMax := max v.pkTMax (c g.tMax) }

/-- Cleared held peaks (R349). -/
def viewClear (v : TlmView) : TlmView :=
  { TlmView.reset with vAvg := v.vAvg, iAvg := v.iAvg, pAvg := v.pAvg, tAvg := v.tAvg, tMax := v.tMax }

/-- Clears the held peaks that `PKCLR` named, at a seal (R349). -/
def State.peaksClear (s : State) : State :=
  let t := s.tlm
  let s := laneNos.foldl (fun u n =>
    if t.pkAll || t.pkChan.testBit n then u.modLane n (fun x => { x with view := viewClear x.view }) else u) s
  let s := if t.pkDev then
      (((s.wr 0xF84 0x80000000).wr 0xF88 0x7FFFFFFF).wr 0xF8C 0x80000000).wr 0xF90 0x7FFFFFFF |>.wr 0xF94 0x8000
    else s
  s.modTlm (fun t => { t with pkChan := 0, pkAll := false, pkDev := false })

/-- Updates the device registers at a seal (R349). -/
def State.deviceSeal (s : State) (h : List Word) : State :=
  let g (k : Nat) : Int := signed 32 (recW h k)
  let s := (s.wr 0xF7C (h.getD 6 0)).wr 0xF80 (h.getD 7 0)
  if s.frz pageTLM then s
  else
    let mx (t : State) (f : Fld) (x : Int) : State := t.putI f (max (t.getI f) x)
    let mn (t : State) (f : Fld) (x : Int) : State := t.putI f (min (t.getI f) x)
    let s := mn (mx s TLM_DIMAX_I (g 8)) TLM_DIMIN_I (g 9)
    let s := mn (mx s TLM_DPMAX_P (g 10)) TLM_DPMIN_P (g 11)
    mx s TLM_DTMAX_T (signed 16 (bitsOf (recW h 12) 0 16))

/-- The period ends at boundary `e` (R338, R339, R342, R345 to R349): reports complete and seal, the ring and the link take
them. -/
def State.periodEnd (s : State) (e : Nat) : State :=
  let t := s.tlm
  let frz := s.frz pageTLM
  let nb := nominal t.per t.start
  let lag := e - nb
  let late := decide (0 < lag)
  let skip := if late then (e - 1) / t.per - nb / t.per else 0
  let noref := s.get PTM_STAT_ST != 2
  let leads := s.leads.filter (fun l => t.chen.testBit l)
  let reports := leads.map (fun l => s.reportWords l t.rseq t.per lag noref)
  let h := s.reportHeader t.rseq lag leads.length skip noref
  let figs := leads.map (fun l => (l, figures (s.lane l).rep (s.lane l).meas.temp))
  let s := if frz then s else s.peaksClear
  let s := figs.foldl (fun u p => u.modLane p.1 (fun x => { x with view := viewSeal x.view p.2 frz })) s
  let s := s.deviceSeal h
  let s := (s.put TLM_RSTAT_RSEQ t.rseq).put TLM_LAG_LAG (min lag (2 ^ 24 - 1))
  let s := if late then (s.count frz TLM_CNT1_LATECNT).ev pageTLM 1 else s
  let s := if frz then s else s.put TLM_CNT1_SKIPCNT (min 65535 (s.get TLM_CNT1_SKIPCNT + skip))
  let s := if !late && e == nb && t.catchup then s.ev pageTLM 2 else s
  let s := s.ringWrite (h :: reports)
  let link := s.flag TLM_CFG_LINKEN
  s.modTlm (fun t => { t with
    on := false, ended := some e, hdr := h, rseq := (t.rseq + 1) % 65536, half := 1 - t.half
    drain := if link then t.drain ++ [(t.half, h :: reports)] else t.drain
    catchup := if late then true else if e = nb then false else t.catchup })

/-- The half that would seal the present period has been released (R338). -/
def State.halfFree (s : State) : Bool := s.tlm.drain.all (fun h => h.1 != s.tlm.half)

/-- A period can end at the present boundary (R338). -/
def State.periodReady (s : State) : Bool :=
  let t := s.tlm
  t.on && decide (0 < t.nfr) && decide (plannedEnd t.per t.start ≤ s.frame) && s.halfFree

/-- Its half is still not released `LATEMAX` after the nominal boundary, and the period ends all the same (R338). -/
def State.periodOverdue (s : State) : Bool :=
  let t := s.tlm
  t.on && decide (0 < t.nfr) && !s.halfFree && decide (nominal t.per t.start + max 1 (s.get TLM_CFG_LATEMAX) ≤ s.frame)

/-- Cycle 0 of a boundary: the period that can end does, and one that has waited for `LATEMAX` frees its half first (R338). -/
def State.periodDue (s : State) : State :=
  if s.periodReady then s.periodEnd s.frame
  else if s.periodOverdue then s.tlmAbandon.periodEnd s.frame
  else s

/-- A period ends with the frames it covered, where its boundary is none of its schedule (R353); the next one carries GAP. -/
def State.periodCut (s : State) : State :=
  let s := if s.tlm.on ∧ 0 < s.tlm.nfr then s.periodEnd (s.tlm.start + s.tlm.nfr) else s
  s.modTlm (fun t => { t with on := false, ended := none })

/-- DEEP_SLEEP is entered (R353): the ring copy completes, and what the link has not accepted is abandoned. -/
def State.tlmSleep (s : State) : State := s.periodCut.tlmAbandonAll

/-- The frame count jumps (R353): the period ends, and the next starts at the new count. -/
def State.tlmJump (s : State) : State := if s.tlm.on then s.periodCut else s

/-- A write of `PKCLR` (R349). -/
def State.pkClr (s : State) (data : Nat) : State :=
  s.modTlm (fun t => { t with
    pkChan := if data.testBit 0 then t.pkChan ||| 2 ^ s.get TLM_CSEL_LANE else t.pkChan
    pkAll := t.pkAll || data.testBit 1, pkDev := t.pkDev || data.testBit 2 })

/-! ### The shown channel and lane (R349, R350, R354) -/

/-- A word of two 16-bit numbers. -/
def pair16 (lo hi : Int) : Word := BitVec.ofNat 32 (unsigned 16 lo + unsigned 16 hi * 65536)

/-- The TLM page at the offsets that follow `CSEL` and `LFSEL`, as a read shows them; `none` elsewhere. -/
def State.tlmShown (s : State) (off : Nat) : Option Word :=
  let l := s.get TLM_CSEL_LANE
  let v := (s.lane l).view
  let chan (w : Word) : Option Word := some (if s.enabled l && s.isLead l then w else 0)
  let c := s.lf.toList.getD (s.get TLM_LFSEL_LANE) LfCap.reset
  let pend (base : Nat) : Word :=
    BitVec.ofNat 32 ((List.range 32).foldl (fun x n => if (s.lf.toList.getD (base + n) LfCap.reset).pend then x + 2 ^ n else x) 0)
  match off with
  | 0x4C => some (BitVec.ofNat 32 (min 1024 s.ringFill))
  | 0x5C => chan (BitVec.ofInt 32 v.vAvg)
  | 0x60 => chan (BitVec.ofInt 32 v.iAvg)
  | 0x64 => chan (BitVec.ofInt 32 v.pAvg)
  | 0x68 => chan (pair16 v.tAvg v.tMax)
  | 0x6C => chan (pair16 v.pkVMax v.pkVMin)
  | 0x70 => chan (pair16 v.pkIMax v.pkIMin)
  | 0x74 => chan (pair16 v.pkPMax v.pkPMin)
  | 0x78 => chan (BitVec.ofNat 32 (unsigned 16 v.pkTMax))
  | 0xA0 => some (BitVec.ofNat 32 ((if c.pend then 1 else 0) + (if c.valid then 2 else 0) + c.lost * 256 + c.seq * 65536))
  | 0xE4 => some (pend 0)
  | 0xE8 => some (pend 32)
  | _ => if 0xA4 ≤ off ∧ off ≤ 0xE0 then some (c.words.getD ((off - 0xA4) / 4) 0) else none

/-! ### Commands -/

def execTlmHalfRelease (s : State) : Host.Outcome State Fault Refusal :=
  .next (if s.running then s.tlmRelease else s)

end Sys2Proof.Machine
end

