-- ==== Sys2Proof/Machine/Efu.lean ====
section
/-!
DEFINITION. Sys2Proof/Machine/Efu.lean: input protection and feed OR-ing (chapter 15).

A feed's state, flags and counters have their home in `FSTATf` and `FCNTf`.  Times that the internal oscillator counts
end by the commands that name them.
-/

namespace Sys2Proof.Machine

def fsOff := 0
def fsInsert := 1
def fsRamp := 2
def fsOn := 3
def fsLimit := 4
def fsTrip := 5
def fsRetryWait := 6
def fsLatched := 7

def State.feed (s : State) (f : Nat) : Feed := s.efu.feeds.toList.getD f Feed.reset
def State.modFeed (s : State) (f : Nat) (g : Feed → Feed) : State :=
  { s with efu := { s.efu with feeds := s.efu.feeds.setIfInBounds f (g (s.feed f)) } }

/-- The state of feed `f` (R357). -/
def State.fst (s : State) (f : Nat) : Nat := s.get (EFU_FSTAT_ST f)

/-- The EFU works: it runs on the internal oscillator whenever the device is powered and not in reset (R357). -/
def State.efuUp (s : State) : Bool := s.alive

/-- Sets an EFU event of a feed: bits 0 to 6 for A, 8 to 14 for B (R371). -/
def State.efuEv (s : State) (f i : Nat) : State := s.ev pageEFU (i + 8 * f)

/-- The gate of feed `f` is commanded on. -/
def State.gateOn (s : State) (f : Nat) : Bool :=
  let st := s.fst f
  st == fsRamp || st == fsLimit || (st == fsOn && !s.flag (EFU_FSTAT_BLK f))

/-- Changes the state of a feed; BLK, PG and LIM follow the new state. -/
def State.feedTo (s : State) (f st : Nat) (blk : Bool) : State :=
  (((s.put (EFU_FSTAT_ST f) st).putB (EFU_FSTAT_BLK f) blk).putB (EFU_FSTAT_PG f) false).putB (EFU_FSTAT_LIM f) (st == fsLimit)

/-- The input lies in the window of INSERT (R358). -/
def State.inWindow (s : State) (f vin : Nat) : Bool :=
  decide (s.get (EFU_FVWIN_UV f) * 10 + 200 ≤ vin ∧ vin ≤ s.get (EFU_FVWIN_OV f) * 10)

/-- A debounce starts; INSERT is set when its input is in window (R358, R371). -/
def State.feedInsert (s : State) (f : Nat) : State :=
  let s := s.feedTo f fsInsert false
  let w := s.inWindow f (s.feed f).vin
  let s := s.modFeed f (fun x => { x with ins := w })
  if w then s.efuEv f 6 else s

/-- The feed goes to OFF (R358); the retry count and a found pair fault are cleared. -/
def State.feedOff (s : State) (f : Nat) : State :=
  ((s.feedTo f fsOff false).put (EFU_FSTAT_RTRYCNT f) 0).putB (EFU_FSTAT_DFET f) false

/-- A trip (R358): cause, TRIPCNT, `SYS.FLTSRC.EFU`, and the wake source EFU trip. -/
def State.feedTrip (s : State) (f cause : Nat) : State :=
  (((((s.feedTo f fsTrip false).put (EFU_FSTAT_CAUSE f) cause).count (s.frz pageEFU) (EFU_FCNT_TRIPCNT f))).flt 3).wakeMark 10

/-- The feed is latched (R358, R371). -/
def State.feedLatch (s : State) (f evs : Nat) : State :=
  ((s.feedTo f fsLatched false).flt 3).raise pageEFU (evs * 2 ^ (8 * f))

/-- The feed enters ON from RAMP (R358). -/
def State.feedOn (s : State) (f : Nat) (blk : Bool) : State := (s.feedTo f fsOn blk).efuEv f 5

/-- `FCTLf` was written (R358): the word as stored, and the CLR bit of the write. -/
def State.fctlWritten (s : State) (f : Nat) (clr : Bool) : State :=
  if !s.flag (EFU_FCTL_EN f) then s.feedOff f
  else
    let s := if clr ∧ s.fst f = fsLatched then s.feedOff f else s
    if s.fst f = fsOff then s.feedInsert f else s

/-- The SOA budget in fJ (R360, R370). -/
def State.soaBudget (s : State) (f : Nat) : Nat := max 1 (s.get (EFU_FSOA_ESOA f)) * 100000000000

/-- The feed current of a sample in µA (R370). -/
def State.feedCurrent (s : State) (f : Nat) (vsh : Int) : Int := divTrunc (vsh * 1000000) (s.get (EFU_FCFG_RSHE f))

/-- The SOA accumulator takes a sample (R360); `SOALVL` follows. -/
def State.soaSample (s : State) (f : Nat) (vds i : Int) : State :=
  let a := (s.feed f).soa
  let lin := s.fst f = fsRamp ∨ s.fst f = fsLimit
  let a := if lin then a + (max 0 (vds * i)).toNat else a - s.get (EFU_FSOA_COOL f) * 100000000
  (s.modFeed f (fun x => { x with soa := a })).put (EFU_FSTAT_SOALVL f) (min 65535 (a * 65536 / s.soaBudget f))

/-- Energy and frame sums take a sample (R366). -/
def State.feedMeasure (s : State) (f : Nat) (x : FeedIn) : State :=
  let i := s.feedCurrent f x.vsh
  let p := (x.vin : Int) * i
  let s := s.modFeed f (fun y => { y with vin := x.vin, energy := clampI (-(2 ^ 63) * 1000000000) (2 ^ 63 * 1000000000 - 1) (y.energy + p) })
  if !s.running then s
  else
    let s := s.modFeed f (fun y => { y with
      iSum := y.iSum + i, vSum := y.vSum + x.vin, dSum := y.dSum + x.vds, pSum := y.pSum + p, n := y.n + 1 })
    { s with efu := { s.efu with vbSum := s.efu.vbSum + x.vb, vbN := s.efu.vbN + 1 } }

/-- Transitions that a sample shows, in the order of R358. -/
def State.feedConditions (s : State) (f : Nat) (x : FeedIn) : State :=
  let st := s.fst f
  let ilim : Int := (s.get (EFU_FLIM_ILIM f) : Int) * 50
  let lin := st = fsRamp ∨ st = fsLimit
  if s.gateOn f ∧ s.get (EFU_FVWIN_OV f) * 10 < x.vin then s.feedTrip f 4
  else if lin ∧ s.soaBudget f ≤ (s.feed f).soa then s.feedTrip f 2
  else if !x.cpOk ∧ (lin ∨ st = fsOn) then (s.feedTrip f 6).ev pageEFU 7
  else if st = fsOn ∧ s.gateOn f ∧ ilim ≤ x.vsh then (s.feedTo f fsLimit false).efuEv f 4
  else if st = fsInsert then
    let w := s.inWindow f x.vin
    let new := w && !(s.feed f).ins
    let s := s.modFeed f (fun y => { y with ins := w })
    if new then s.efuEv f 6 else s
  else (s.putB (EFU_FSTAT_PG f) (st == fsOn && decide (x.vds < 250))).putB (EFU_FSTAT_LIM f)
    (st == fsLimit || (st == fsRamp && decide (ilim ≤ x.vsh)))

/-- `EFU_SAMPLE` (R358, R360, R366). -/
def State.efuSample (s : State) (f : Nat) (x : FeedIn) : State :=
  if !s.efuUp then s
  else
    let i := s.feedCurrent f x.vsh
    (((s.putB EFU_CPSTAT_CPOK x.cpOk).feedMeasure f x).soaSample f x.vds i).feedConditions f x

def execEfuSample (feed : Fin 2) (x : FeedIn) (s : State) : Host.Outcome State Fault Refusal := .next (s.efuSample feed.val x)

/-- A row of R358: while feed `f` is in a state that `from_` names, `act` is taken. -/
def State.feedRow (s : State) (f : Nat) (from_ : Nat → Bool) (act : State → State) : State :=
  if s.efuUp ∧ from_ (s.fst f) then act s else s

/-- RAMP, ON and LIMIT. -/
def conducting (st : Nat) : Bool := st == fsRamp || st == fsOn || st == fsLimit

def execEfuInsertDone (feed : Fin 2) (s : State) : Host.Outcome State Fault Refusal :=
  .next (s.feedRow feed.val (· == fsInsert) (fun t =>
    let t := if (t.feed feed.val).ins then t else t.efuEv feed.val 6
    ((t.modFeed feed.val (fun x => { x with soa := 0, ins := true })).put (EFU_FSTAT_SOALVL feed.val) 0).feedTo feed.val fsRamp false))

def execEfuInputLeavesWindow (feed : Fin 2) (s : State) : Host.Outcome State Fault Refusal :=
  .next (s.feedRow feed.val (· == fsInsert) (fun t => t.modFeed feed.val (fun x => { x with ins := false })))

def execEfuLimitExit (feed : Fin 2) (s : State) : Host.Outcome State Fault Refusal :=
  .next (s.feedRow feed.val (· == fsLimit) (fun t => t.feedTo feed.val fsOn false))

def execEfuFastTrip (feed : Fin 2) (s : State) : Host.Outcome State Fault Refusal :=
  .next (s.feedRow feed.val conducting (fun t =>
    (t.feedTrip feed.val 1).count (t.frz pageEFU) (EFU_FCNT_FASTCNT feed.val)))

/-- The reverse comparator (R358, R362): in RAMP it also ends the ramp. -/
def State.feedReverse (s : State) (f : Nat) : State :=
  let s := if s.fst f = fsRamp then s.feedOn f true else s.feedTo f fsOn true
  (s.count (s.frz pageEFU) (EFU_FCNT_REVCNT f)).efuEv f 3

def execEfuReverse (feed : Fin 2) (s : State) : Host.Outcome State Fault Refusal :=
  .next (s.feedRow feed.val (fun st => st == fsRamp || (st == fsOn && !s.flag (EFU_FSTAT_BLK feed.val))) (fun t => t.feedReverse feed.val))

def execEfuRejoin (feed : Fin 2) (s : State) : Host.Outcome State Fault Refusal :=
  .next (s.feedRow feed.val (fun st => st == fsOn && s.flag (EFU_FSTAT_BLK feed.val)) (fun t => t.feedTo feed.val fsOn false))

/-- The charge pump falls below V_CPUV: it serves both feeds (R356, R358, R368). -/
def State.cpFail (s : State) : State :=
  if !s.efuUp then s
  else
    let s := s.putB EFU_CPSTAT_CPOK false
    [0, 1].foldl (fun t f => if conducting (t.fst f) then (t.feedTrip f 6).ev pageEFU 7 else t) s

def execCpFail (s : State) : Host.Outcome State Fault Refusal := .next s.cpFail

def execEfuRampDone (feed : Fin 2) (s : State) : Host.Outcome State Fault Refusal :=
  .next (s.feedRow feed.val (· == fsRamp) (fun t => (t.feedOn feed.val false).putB (EFU_FSTAT_PG feed.val) true))

def execEfuRampTimeout (feed : Fin 2) (s : State) : Host.Outcome State Fault Refusal :=
  .next (s.feedRow feed.val (· == fsRamp) (fun t => t.feedTrip feed.val 3))

def execEfuInputUv (feed : Fin 2) (s : State) : Host.Outcome State Fault Refusal :=
  .next (s.feedRow feed.val conducting (fun t => (t.modFeed feed.val (fun x => { x with ins := false })).feedTo feed.val fsInsert false))

def execEfuOnSettled (feed : Fin 2) (s : State) : Host.Outcome State Fault Refusal :=
  .next (s.feedRow feed.val (· == fsOn) (fun t => t.put (EFU_FSTAT_RTRYCNT feed.val) 0))

/-- Ten microseconds after a trip (R358, R365). -/
def State.tripEnd (s : State) (f : Nat) : State :=
  let used := s.get (EFU_FSTAT_RTRYCNT f)
  let n := s.get (EFU_FCTL_RTRYN f)
  if n = 15 ∨ used < n then
    (((s.feedTo f fsRetryWait false).put (EFU_FSTAT_RTRYCNT f) (min 15 (used + 1))).count (s.frz pageEFU) (EFU_FCNT_RETRYCNT f)).efuEv f 0
  else s.feedLatch f 3

def execEfuTripEnd (feed : Fin 2) (s : State) : Host.Outcome State Fault Refusal :=
  .next (s.feedRow feed.val (· == fsTrip) (fun t => t.tripEnd feed.val))

/-- The retry wait ends with the input at `vin` mV (R358, R365). -/
def execEfuRetry (feed : Fin 2) (vin : Nat) (s : State) : Host.Outcome State Fault Refusal :=
  .next (s.feedRow feed.val (· == fsRetryWait) (fun t =>
    let t := t.modFeed feed.val (fun x => { x with vin := vin })
    if t.inWindow feed.val vin then t.feedTo feed.val fsRamp false else t.feedInsert feed.val))

/-- A damaged pair is found while the gate is commanded off (R358, R364). -/
def execEfuDfet (feed : Fin 2) (s : State) : Host.Outcome State Fault Refusal :=
  .next (s.feedRow feed.val (fun st => !s.gateOn feed.val && st != fsLatched) (fun t =>
    ((t.feedLatch feed.val 6).put (EFU_FSTAT_CAUSE feed.val) 5).putB (EFU_FSTAT_DFET feed.val) true))

/-- The frame means of a feed (R366). -/
def State.feedFrame (s : State) (f : Nat) : State :=
  let x := s.feed f
  if x.n = 0 then s
  else
    let n : Int := x.n
    let i := divAway x.iSum (n * 1000)
    let s := (s.putI (EFU_FI_I f) i).put (EFU_FV_VIN f) (min 65535 (divAway x.vSum n).toNat)
    let s := (s.putI (EFU_FV_VDS f) (satI 16 (divAway x.dSum n))).putI (EFU_FP_P f) (satI 32 (divAway x.pSum (n * 1000000)))
    let s := if s.frz pageEFU then s
      else s.put (EFU_FIPK_IPK f) (max (s.get (EFU_FIPK_IPK f)) (min 65535 (divAway x.iSum (n * 10000)).toNat))
    s.modFeed f (fun y => { y with iSum := 0, vSum := 0, dSum := 0, pSum := 0, n := 0 })

/-- The EFU reports of a frame boundary (R366). -/
def State.efuFrame (s : State) : State :=
  let s := (s.feedFrame 0).feedFrame 1
  let s := s.putI EFU_ISUM_I (satI 32 (s.getI (EFU_FI_I 0) + s.getI (EFU_FI_I 1)))
  let e := s.efu
  if e.vbN = 0 then s
  else { s with efu := { e with vbSum := 0, vbN := 0 } }.put EFU_VBUS_VB (min 65535 (divAway e.vbSum e.vbN).toNat)

/-- A write of `CNTCLR` (R366, R370). -/
def State.efuCntclr (s : State) (data : Nat) : State :=
  [0, 1].foldl (fun t f =>
    let t := if data.testBit f then (t.wr (EFU_FCNT_TRIPCNT f).addr 0).put (EFU_FIPK_IPK f) 0 else t
    if data.testBit (2 + f) then t.modFeed f (fun x => { x with energy := 0 }) else t) s

/-- The energy of a feed in µJ as a 64-bit code (R366); 0 while `RSHE` is 0 (R370). -/
def State.feedEnergy (s : State) (f : Nat) : Nat :=
  if s.get (EFU_FCFG_RSHE f) = 0 then 0 else unsigned 64 ((s.feed f).energy / 1000000000)

/-- `FIf` and `FPf` as read: 0 while `RSHE` is 0 (R370). -/
def State.efuShown (s : State) (off : Nat) : Option Word :=
  if (off = 0x38 ∨ off = 0x40) ∧ s.get (EFU_FCFG_RSHE 0) = 0 then some 0
  else if (off = 0x78 ∨ off = 0x80) ∧ s.get (EFU_FCFG_RSHE 1) = 0 then some 0
  else if off = 0x44 ∨ off = 0x84 then some (BitVec.ofNat 32 (s.feedEnergy (off / 0x40 - 1)))
  else if off = 0x48 ∨ off = 0x88 then some (BitVec.ofNat 32 (s.feedEnergy (off / 0x40 - 1) / 2 ^ 32))
  else none

/-- A read of `FELf` latches `FEHf` for the initiator (R366). -/
def State.feedEnergyRead (s : State) (i : Init) (f : Nat) : Word × State :=
  let e := s.feedEnergy f
  let a := (EFU_FEH_E f).addr
  (BitVec.ofNat 32 (e % 2 ^ 32), s.latch i (· == a) [(a, BitVec.ofNat 32 (e / 2 ^ 32))])

end Sys2Proof.Machine
end

