-- ==== Sys2Proof/Machine/Thermal.lean ====
section
/-!
DEFINITION. Sys2Proof/Machine/Thermal.lean: die sensors, bands, throttling and thermal shutdown (chapter 16).
-/

namespace Sys2Proof.Machine

def State.modThm (s : State) (f : Thm → Thm) : State := { s with thm := f s.thm }
def bankNos : List Nat := List.range 8
def sensorNos : List Nat := List.range 9

/-- A signed limit in °C as 0.01 °C. -/
def State.degrees (s : State) (f : Fld) : Int := s.getI f * 100

/-- Sensor `b` is faulty (R373). -/
def State.sensorBad (s : State) (b : Nat) : Bool := s.flag (THM_TEMP_FAULT b)

/-- Sensor `b` holds a healthy reading. -/
def State.sensorOk (s : State) (b : Nat) : Bool := !s.sensorBad b && s.getI (THM_TEMP_T b) != -32768

/-! ### Readings (R372 to R374) -/

/-- The highest healthy reading and its sensor; the lower index of equal ones (R374). -/
def State.hottest (s : State) : Int × Nat :=
  sensorNos.foldl (fun x b => if s.sensorOk b ∧ x.1 < s.getI (THM_TEMP_T b) then (s.getI (THM_TEMP_T b), b) else x) (-32768, 0)

/-- TMAX, PEAK and HOT_WARN follow the readings (R374, R384). -/
def State.tmaxUpdate (s : State) : State :=
  let old := s.getI THM_TMAX_T
  let (t, src) := s.hottest
  let warn := s.thm.warn * 100
  let s := (s.putI THM_TMAX_T t).put THM_TMAX_SRC src
  let s := if !s.frz pageTHM ∧ s.getI THM_PEAK_T < t then (s.putI THM_PEAK_T t).put THM_PEAK_SRC src else s
  if old < warn ∧ warn ≤ t then s.ev pageTHM 2 else s

/-- A sensor is marked faulty (R373). -/
def State.sensorFault (s : State) (b : Nat) : State :=
  let new := !s.sensorBad b
  let s := (s.putI (THM_TEMP_T b) (-32768)).putB (THM_TEMP_FAULT b) true
  if new then s.ev pageTHM 4 else s

/-- The core sensor corrects VREF_EST by the factory model, whose values the spec does not give (R201, R373). -/
def State.refCorrect (s : State) (b : Nat) (t : Int) : State :=
  if b = 8 then
    s.put CAL_VREFEST_VREF (Config.vrefModel (s.get CAL_VREFEST_VREF) t s.shadow.vmodel.1 s.shadow.vmodel.2)
  else s

/-- `THM_SENSOR_CONVERT`: a reading in 0.01 °C, or none where a conversion stalls for 1 ms (R372, R373). -/
def State.sensorConvert (s : State) (b : Nat) (r : Option Int) : State :=
  if !s.alive then s
  else
    let s := match r with
      | some t =>
        if -5500 ≤ t ∧ t ≤ 17500 then
          (((s.putI (THM_TEMP_T b) t).putB (THM_TEMP_FAULT b) false).refCorrect b t).modThm (fun x => { x with
            last := x.last.setIfInBounds b (some t) })
        else s.sensorFault b
      | none => s.sensorFault b
    s.tmaxUpdate

def execThmSensorConvert (sensor : Fin 9) (reading : Option Int) (s : State) : Host.Outcome State Fault Refusal :=
  .next (s.sensorConvert sensor.val reading)

/-! ### Bands (R375, R376) -/

/-- The limits TB1 to TB4 in 0.01 °C. -/
def State.bandLimits (s : State) : List Int :=
  [s.degrees THM_BANDTH_TB1, s.degrees THM_BANDTH_TB2, s.degrees THM_BANDTH_TB3, s.degrees THM_BANDTH_TB4]

/-- The limits rise strictly. -/
def rising : List Int → Bool
  | [] => true
  | [_] => true
  | a :: b :: r => decide (a < b) && rising (b :: r)

/-- The band of a reading without hysteresis (R376). -/
def plainBand (tb : List Int) (t : Int) : Nat := (tb.filter (fun x => x ≤ t)).length

/-- The band of a reading, from band `i` (R375): up by the limits, down by the limits less the hysteresis. -/
def nextBand (tb : List Int) (hys : Int) (i : Nat) (t : Int) : Nat :=
  let up := plainBand tb t
  let dn := plainBand (tb.map (· - hys)) t
  if i < up then up else if dn < i then dn else i

/-- The band decisions of a boundary (R375, R376). -/
def State.bandDecide (s : State) : State :=
  let tb := s.bandLimits
  if !rising tb then
    let s := if s.thm.thBad then s else s.ev pageTHM 5
    s.modThm (fun t => { t with thBad := true })
  else
    let hys : Int := (s.get THM_BANDCFG_BHYS : Int) * 100
    let s := s.modThm (fun t => { t with thBad := false })
    bankNos.foldl (fun u b =>
      if !u.sensorOk b then u
      else
        let i := u.bandOf b
        let t := u.getI (THM_TEMP_T b)
        let k := if u.thm.banded.testBit b then nextBand tb hys i t else plainBand tb t
        let u := u.modThm (fun x => { x with banded := x.banded ||| 2 ^ b })
        if k = i then u
        else (u.put THM_BAND_BAND (putBits (u.get THM_BAND_BAND) (3 * b) 3 k)).bandChanged b) s

/-- The bands of a boundary, which the modulators take from their next trigger (R135, R376). -/
def State.bandFrame (s : State) : State :=
  let s := s.bandDecide
  s.enabledLanes.foldl (fun t l => t.put (LANE_TON_BAND l) (t.bandOf (bankOf l))) s

/-! ### Throttling (R377, R378) -/

/-- The automatic level of bank `b`. -/
def State.autoLevel (s : State) (b : Nat) : Nat := s.thm.auto.toList.getD b 0

/-- The level in force of bank `b` at a boundary (R377). -/
def State.levelOf (s : State) (b : Nat) : Nat :=
  max (bitsOf (s.get THM_MINLVL_MIN) (4 * b) 4)
    (max (if s.flag THM_THRCFG_AUTOEN then s.autoLevel b else 0) (if s.sensorBad b then s.get THM_THRCFG_FLTLVL else 0))

/-- rev4 of R378. -/
def rev4 (x : Nat) : Nat := x % 2 * 8 + x / 2 % 2 * 4 + x / 4 % 2 * 2 + x / 8 % 2

/-- The levels in force and the pause decision of this frame (R377, R378), and what else acts from a boundary on (R383). -/
def State.levelFrame (s : State) : State :=
  let s := s.modThm (fun t => { t with warn := s.getI THM_WARN_TWARN, psel := s.get THM_PSEL_BANK })
  let cap := s.get THM_THRCFG_MAXLVL
  let on := s.flag THM_THRCFG_AUTOEN
  let s := s.modThm (fun t => { t with auto := t.auto.map (fun a => if on then min a cap else 0) })
  let f := s.frame
  let s := bankNos.foldl (fun u b =>
    let old := bitsOf (u.get THM_LEVEL_LVL) (4 * b) 4
    let n := u.levelOf b
    let u := u.put THM_LEVEL_LVL (putBits (u.get THM_LEVEL_LVL) (4 * b) 4 n)
    if old = 0 ∧ n ≠ 0 then u.ev pageTHM 0 else u) s
  let lvl := s.get THM_LEVEL_LVL
  let pause := bankNos.foldl (fun x b => if rev4 ((f + b) % 16) < bitsOf lvl (4 * b) 4 then x + 2 ^ b else x) 0
  let s := { s with pins := { s.pins with paused := pause, pausedPrev := s.pins.paused } }
  if s.frz pageTHM then s
  else s.modThm (fun t => { t with
    pcnt := Vector.ofFn (fun b : Fin 8 => ((t.pcnt.toList.getD b.val 0) + if pause.testBit b.val then 1 else 0) % 2 ^ 32) })

/-- One bank's automatic level takes its update from the latest healthy reading (R377). -/
def State.levelStep (s : State) (b : Nat) : State :=
  match s.thm.last.toList.getD b none with
  | none => s
  | some t =>
    let hot := s.degrees THM_THRCFG_TTHR
    let cap := s.get THM_THRCFG_MAXLVL
    let n := s.autoLevel b
    let m := if hot ≤ t then max n (min cap (n + 1))
      else if t < hot - (s.get THM_THRCFG_THYS : Int) * 100 then n - 1 else n
    let s := s.modThm (fun x => { x with auto := x.auto.setIfInBounds b m })
    if n < m ∧ m = cap then s.ev pageTHM 1 else s

/-- The automatic levels at a boundary of 100 × TSTEP frames, once a boundary (R377): `FRAME_BOUNDARY` makes the update after the levels
in force, which take it from the next boundary on, and `THM_LEVEL_UPDATE` makes one that the frame has not had. -/
def State.levelUpdate (s : State) : State :=
  if !s.running || s.mode == .deepSleep || !s.flag THM_THRCFG_AUTOEN || s.thm.updated == some s.localFrame ||
      s.frame % (100 * max 1 (s.get THM_THRCFG_TSTEP)) != 0 then s
  else bankNos.foldl State.levelStep (s.modThm (fun x => { x with updated := some s.localFrame }))

def execThmLevelUpdate (s : State) : Host.Outcome State Fault Refusal := .next s.levelUpdate

/-- A write of `CLR` (R374). -/
def State.thmPkclr (s : State) (data : Nat) : State :=
  if data.testBit 0 then (s.putI THM_PEAK_T (-32768)).put THM_PEAK_SRC 0 else s

/-- `PCNT` as read (R378). -/
def State.pcntWord (s : State) : Word := BitVec.ofNat 32 (s.thm.pcnt.toList.getD s.thm.psel 0)

/-! ### Shutdown (R379, R380) -/

/-- `TSD`: a comparator has been tripped for 10 µs. -/
def State.thermalTrip (s : State) (b : Nat) : State :=
  if s.psq.st = .powerless then s
  else
    let s := if s.flag THM_TSDSTAT_LATCHED then s else (s.putB THM_TSDSTAT_LATCHED true).put THM_TSDSTAT_SRC b
    if s.rst.inReset then s else ((s.forceAllSafe 0x0A 7 true).flt 1).ev pageTHM 3

def execThermalShutdown (sensor : Fin 9) (s : State) : Host.Outcome State Fault Refusal := .next (s.thermalTrip sensor.val)

end Sys2Proof.Machine
end

