-- ==== Sys2Proof/Machine/Watchdog.lean ====
section
/-!
DEFINITION. Sys2Proof/Machine/Watchdog.lean: the watchdog and the CORE reset (chapters 04 and 17).
-/

namespace Sys2Proof.Machine

/-- Registers of page `p` take their reset values, but for the offsets that `keep` names. -/
def State.resetPage (s : State) (p : Nat) (keep : Nat → Bool) : State :=
  s.dropEvents (fun s => { (s.dropStage p) with regs := sparseKeep (fun a => !inPage p a || keep (a % 256)) s.regs })

/-- A reset of any scope is recorded (R89, R99). -/
def State.resetSeen (s : State) (code : Nat) : State :=
  let s := s.put RST_CAUSE_CAUSE (s.get RST_CAUSE_CAUSE ||| 2 ^ code)
  (s.put RST_LAST_CODE code).ev pageRST 1

/-- CORE reset (R85, R88, R409): BOOTCFG, BOOTCNT, TRAPCAUSE and TRAPPC stay, core SRAM stays, and a halt ends. -/
def State.coreReset (s : State) (code : Nat) : State :=
  let cnt := s.get CORE_BOOTSTAT_BOOTCNT
  let s := s.resetPage pageCORE (fun o => o = 0x20 ∨ o = 0x6C ∨ o = 0x70)
  let s := (s.put CORE_BOOTSTAT_BOOTCNT cnt).putB DBG_STAT_HALTED false
  let s := { s with
    core := { CoreSt.reset with cold := s.core.cold, warm := true, userRan := s.core.userRan }
    latches := s.latches.filter (fun x => x.who != Init.core) }
  s.resetSeen code

/-! ### Periods (R396, R397, R399, R400) -/

def State.modWdg (s : State) (f : Wdg → Wdg) : State := { s with wdg := f s.wdg }

/-- A period starts: the values of this moment are in force for it. -/
def State.wdgPeriod (s : State) (first : Bool) : State :=
  let o := s.get WDG_WOPEN_WOPEN
  let c := max (s.get WDG_WCLOSE_WCLOSE) (o + 1)
  let fto := max 1 (s.get WDG_CTL_FIRSTTO)
  let s := (s.put WDG_COUNT_C 0).put WDG_LEDGER_LEDGER 0
  s.modWdg (fun w => { w with
    on := true, first := first
    opens := if first then 0 else o * 2000
    closes := if first then fto * 2000000 else c * 2000
    tasks := s.get WDG_TASKEN_TASKEN, t520 := s.flag WDG_CTL_T520 })

/-- The watchdog starts after a DEVICE or POR reset: its time stands in for a service not yet taken (R401). -/
def State.wdgStart (s : State) : State :=
  (s.wdgPeriod true).modWdg (fun w => { w with svcPt := s.time.ptime, svcFrame := s.frame, served := false, loc := false })

/-- The watchdog expires (R401): 1 LATE, 2 EARLY. -/
def State.wdgExpire (s : State) (cause : Nat) : State :=
  let w := s.wdg
  let s := if s.flag WDG_CAPSTAT_VALID then s.put WDG_CAPSTAT_LOST (min 255 (s.get WDG_CAPSTAT_LOST + 1))
    else
      let led := s.get WDG_LEDGER_LEDGER
      let (n, s) := s.draw
      let s := ((s.putB WDG_CAPSTAT_VALID true).put WDG_CAPSTAT_CAUSE cause).putB WDG_CAPSTAT_NOSVC (!w.served)
      let s := (s.put WDG_CAPSTAT_LEDGER led).put WDG_CAPPC_PC (Config.corePc n).toNat
      ((s.put WDG_CAPPTL_T (w.svcPt % 2 ^ 32)).put WDG_CAPPTH_T (w.svcPt / 2 ^ 32)).put WDG_CAPFRM_FRAME w.svcFrame
  let s := ((s.count (s.frz pageWDG) WDG_CNT_EXPCNT).flt 4).ev pageWDG 2
  let s := (s.put WDG_COUNT_C 0).put WDG_LEDGER_LEDGER 0
  (s.modWdg (fun w => { w with on := false, loc := true })).coreReset 5

/-- The debugger's halt holds the count (R404). -/
def State.wdgHeld (s : State) : Bool := s.wdg.t520 && s.flag DBG_STAT_HALTED

/-- `n` CLK_SYS cycles pass (R396): the count advances, and expiry comes at C. -/
def State.wdgAdvance (s : State) (n : Nat) : State :=
  if !s.wdg.on || s.wdgHeld then s
  else
    let c := s.get WDG_COUNT_C + n
    if s.wdg.closes ≤ c then s.wdgExpire 1 else s.put WDG_COUNT_C c

/-- The watchdog sees toggles and time: the device runs outside DEEP_SLEEP (R402). -/
def State.wdgLive (s : State) : Bool := s.running && s.wdg.on && s.mode != .deepSleep

def execWdgLate (s : State) : Host.Outcome State Fault Refusal :=
  .next (if s.wdgLive && !s.wdgHeld then s.wdgExpire 1 else s)

/-- A toggle arrives from the ball or from the loopback (R395 to R398, R404). -/
def State.wdiToggle (s : State) (internal : Bool) : State :=
  let c := s.get WDG_COUNT_C
  let led := s.get WDG_LEDGER_LEDGER
  if !s.wdgLive || internal != s.shadow.wdiSrc || !bit (s.rd 0x160C).toNat 0 then s
  else if s.wdgHeld then s.count (s.frz pageWDG) WDG_CNT_FRZCNT
  else if c < s.wdg.opens then s.wdgExpire 2
  else if s.wdg.closes ≤ c then s.wdgExpire 1
  else if s.wdg.tasks &&& led = s.wdg.tasks then
    let s := (s.put WDG_LASTSVCL_T (s.time.ptime % 2 ^ 32)).put WDG_LASTSVCH_T (s.time.ptime / 2 ^ 32)
    (s.modWdg (fun w => { w with svcPt := s.time.ptime, svcFrame := s.frame, served := true })).wdgPeriod false
  else
    let miss := s.wdg.tasks ^^^ (s.wdg.tasks &&& led)
    ((s.put WDG_LEDGER_MISSING miss).count (s.frz pageWDG) WDG_CNT_MISSCNT).ev pageWDG 0

def execWdiToggle (internal : Bool) (s : State) : Host.Outcome State Fault Refusal := .next (s.wdiToggle internal)

/-- A write of `CHECKIN` (R397, R398). -/
def State.checkIn (s : State) (tasks : Nat) : State :=
  if !s.wdg.on then s
  else
    let t := tasks % 65536 &&& s.wdg.tasks
    let led := s.get WDG_LEDGER_LEDGER
    let dbl := popcount 16 (t &&& led)
    let s := s.put WDG_LEDGER_LEDGER (led ||| t)
    if dbl = 0 then s
    else ((List.range dbl).foldl (fun u _ => u.count (s.frz pageWDG) WDG_CNT_DBLCNT) s).ev pageWDG 1

/-- `WDG.CTL` is written (R400): the word that the register takes. -/
def State.wdgCtl (s : State) (data : Nat) : State :=
  if s.flag WDG_CTL_LOCK then s.ev pageWDG 3
  else
    let was := s.flag WDG_CTL_T520
    let s := s.wr 0x72C (BitVec.ofNat 32 data)
    if !was && s.flag WDG_CTL_T520 then s.ev pageWDG 4 else s

/-- A write of `CAPSTAT` (R401, R405). -/
def State.capRearm (s : State) (data : Nat) : State :=
  if data.testBit 0 then s.putB WDG_CAPSTAT_VALID false else s

end Sys2Proof.Machine
end

