-- ==== Sys2Proof/Machine/ControlCore.lean ====
section
/-!
DEFINITION. Sys2Proof/Machine/ControlCore.lean: boot, interrupts and debug access (chapter 17).

What the core executes is not the block's: firmware is a sender of commands.  Held here is what the core's hardware and
the resident supervisor in the boot ROM do.
-/

namespace Sys2Proof.Machine

def State.modCore (s : State) (f : CoreSt → CoreSt) : State := { s with core := f s.core }
def State.modRegs (s : State) (f : CoreRegs → CoreRegs) : State := s.modCore (fun c => { c with regs := f c.regs })

/-- `misa`: RV32I with the M and C extensions (R385). -/
def coreMisa : Word := 0x40001104

/-- The hardware's part of a trap (R385, R389). -/
def State.trapEntry (s : State) (cause pc tval : Word) : State :=
  s.modRegs (fun r => { r with mepc := pc, mcause := cause, mtval := tval })

/-- `SYS.MODE.REQ` is written (R91): 3 leaves it. -/
def State.requestMode (s : State) (req : Nat) : State :=
  if 3 ≤ req % 4 then s
  else
    let m : Mode := if req % 4 = 0 then .run else if req % 4 = 1 then .standby else .deepSleep
    { (s.put SYS_MODE_REQ req) with rst := { s.rst with modeReq := some m } }

/-! ### Boot (R390 to R392) -/

def State.bootStage (s : State) : Nat := s.get CORE_BOOTSTAT_STAGE

/-- The strap of the boot: 3 is treated as ROM (R40). -/
def State.bootSel (s : State) : Nat := if s.get SYS_STRAP_BOOTSEL = 3 then 0 else s.get SYS_STRAP_BOOTSEL

/-- The image check (R391): the first failure (0: none), and the CRC where the check came to it. -/
def State.imageCheck (s : State) : Nat × Option Nat :=
  let len := (s.memWord 0x100004).toNat
  let ent := (s.memWord 0x100008).toNat
  if s.memWord 0x100000 ≠ 0x31574655 then (1, none)
  else if len % 4 ≠ 0 ∨ len < 36 ∨ 245760 < len then (2, none)
  else if ent % 2 ≠ 0 ∨ ent < 0x20 ∨ len - 2 < ent then (3, none)
  else
    let crc := crc32 ((List.range (len - 0x20)).map (fun i => s.byte (0x100020 + i)))
    (if crc = (s.memWord 0x10000C).toNat then 0 else 4, some crc)

/-- The supervisor's stage after the checks at a start (R390, R392). -/
def State.bootWait (s : State) : State :=
  if s.bootSel = 0 then
    let s := if s.core.warm then s else s.requestMode 0
    s.put CORE_BOOTSTAT_STAGE 6
  else s.put CORE_BOOTSTAT_STAGE 3

/-- An OTP region was INCOMPLETE or a word MARGINAL at start-up (R131). -/
def State.otpDoubt (s : State) : Bool := (List.range 5).any (fun r => bitsOf (s.get OTP_REGSTAT_STATE) (2 * r) 2 == 2) || s.get OTP_MARG_COUNT != 0

/-- `CORE_START`: the core starts from the boot ROM (R390, R392, R401). -/
def State.coreStart (s : State) : State :=
  if !s.running || bit (s.rd 0x160C).toNat 0 then s
  else
    let cold := s.core.cold
    let s := s.wr 0x160C 1
    let s := s.put CORE_BOOTSTAT_BOOTCNT (min 65535 (s.get CORE_BOOTSTAT_BOOTCNT + 1))
    let s := s.put CORE_BOOTSTAT_SRC s.bootSel
    let s := s.modCore (fun c => { c with cold := false, warm := !cold, regs := CoreRegs.reset })
    if cold then
      let s := if s.otpDoubt then s.flt 6 else s
      s.capLoad.bootWait
    else
      let s := (s.wdgPeriod true).ev pageCORE 3
      if s.core.userRan ∧ s.flag CORE_BOOTCFG_REBOOT ∧ s.imageCheck.1 = 0 then s.put CORE_BOOTSTAT_STAGE 4 else s.bootWait

def execCoreStart (s : State) : Host.Outcome State Fault Refusal := .next s.coreStart

/-- A write of `BOOTCMD` (R390). -/
def State.bootCmd (s : State) (i : Init) (data : Nat) : State :=
  if !data.testBit 0 || s.bootStage != 3 then s
  else
    let ok : Bool := match i with
      | .host => s.bootSel == 1
      | .u _ => s.bootSel == 2
      | .core => false
    if ok then s.put CORE_BOOTSTAT_STAGE 4 else (s.put CORE_BOOTSTAT_ERR 5).ev pageCORE 1

/-- `IMAGE_CHECK_DONE` (R391, R392). -/
def State.imageDone (s : State) : State :=
  if !s.running || s.bootStage != 4 then s
  else
    let (err, crc) := s.imageCheck
    let s := match crc with
      | some c => s.put CORE_IMGCRC_CRC c
      | none => s
    let s := s.put CORE_BOOTSTAT_ERR err
    if err ≠ 0 then (s.put CORE_BOOTSTAT_STAGE 3).ev pageCORE 1
    else
      let s := if s.core.warm then s else s.requestMode 0
      let s := (s.put CORE_BOOTSTAT_STAGE 7).wr 0x160C (s.rd 0x160C ||| 8)
      let s := s.modRegs (fun r => { r with entry := s.memWord 0x100008 + 0x100000 })
      (s.modCore (fun c => { c with userRan := true })).ev pageCORE 2

def execImageCheckDone (s : State) : Host.Outcome State Fault Refusal := .next s.imageDone

/-! ### Interrupts, exceptions and machine time (R388, R389, R394, R409) -/

/-- MTIME as one number. -/
def State.mtime (s : State) : Nat := s.get CORE_MTIMEL_T + s.get CORE_MTIMEH_T * 2 ^ 32

/-- `n` CLK_SYS cycles pass: MTIME advances every 200 (R388), and `mcycle` and `minstret` count (R385). -/
def State.mtimeAdvance (s : State) (n : Nat) : State :=
  let k := s.core.mfrac + n
  let t := (s.mtime + k / 200) % 2 ^ 64
  let s := if k < 200 then s else (s.put CORE_MTIMEL_T t).put CORE_MTIMEH_T (t / 2 ^ 32)
  let r := s.core.regs
  s.modCore (fun c => { c with
    mfrac := k % 200
    regs := { r with
      mcycle := (r.mcycle + n) % 2 ^ 64
      minstret := (r.minstret + Config.retired r.mcycle n) % 2 ^ 64 } })

/-- A page raises the external interrupt (R388). -/
def State.mei (s : State) : Bool :=
  allPages.any (fun p =>
    let en := s.rd (0x1630 + 4 * (if p < 0x40 then 0 else if p < 0x60 then 1 else 2))
    bit en.toNat (p % 32) && s.present p && s.pevtRead p != 0)

/-- The condition and the mcause of an interrupt (R388). -/
def State.irqDue (s : State) : CoreIrq → Bool
  | .msi => s.flag CORE_MSIP_MSIP
  | .mti => decide (s.get CORE_MTIMECMPL_T + s.get CORE_MTIMECMPH_T * 2 ^ 32 ≤ s.mtime)
  | .mei => s.mei

/-- The mcause of an interrupt (R388). -/
def irqCause : CoreIrq → Word
  | .msi => 0x80000003
  | .mti => 0x80000007
  | .mei => 0x8000000B

/-- The handler that is installed for an mcause (R394). -/
def State.handlerOf (s : State) (cause : Word) : Option Word := (s.core.handlers.find? (fun p => p.1 = cause)).map (·.2)

/-- The supervisor calls an installed handler (R394). -/
def State.callHandler (s : State) (cause pc tval : Word) : State :=
  match s.handlerOf cause with
  | some h => (s.modRegs (fun r => { r with entry := h })).modCore (fun c => { c with call := some ⟨h, cause, pc, tval⟩ })
  | none => s

/-- `CORE_INTERRUPT`: taken, and passed on by the supervisor (R388, R389). -/
def State.coreInterrupt (s : State) (irq : CoreIrq) (pc : Word) : State :=
  if s.running && s.coreRuns && s.irqDue irq then (s.trapEntry (irqCause irq) pc 0).callHandler (irqCause irq) pc 0 else s

def execCoreInterrupt (irq : CoreIrq) (pc : Word) (s : State) : Host.Outcome State Fault Refusal :=
  .next (s.coreInterrupt irq pc)

/-- `TRAP`: an exception (R389); one with an installed handler is claimed (R394). -/
def State.coreTrap (s : State) (cause pc tval : Word) : State :=
  if !(s.running && s.coreRuns) then s
  else if (s.handlerOf cause).isSome then (s.trapEntry cause pc tval).callHandler cause pc tval
  else
    ((((s.trapEntry cause pc tval).put CORE_TRAPCAUSE_MCAUSE cause.toNat).put CORE_TRAPPC_MEPC pc.toNat).modCore
      (fun c => { c with trapped := true })).ev pageCORE 4

def execCoreTrap (cause : BitVec 4) (pc : Word) (tval : Word) (s : State) : Host.Outcome State Fault Refusal :=
  .next (s.coreTrap (cause.setWidth 32) pc tval)

/-- A read of `MTIMEL` latches `MTIMEH` for the initiator (R409). -/
def State.mtimeLatch (s : State) (i : Init) : Word × State :=
  (s.rd 0x1640, s.latch i (· == 0x1644) [(0x1644, s.rd 0x1644)])

/-- A status in a0 and a word in a1 (R394). -/
def State.svcReturn (s : State) (a0 a1 : Nat) : State :=
  s.modCore (fun c => { c with a0 := BitVec.ofNat 32 a0, a1 := BitVec.ofNat 32 a1 })

/-- An address in core SRAM (R387). -/
def inSram (a : Nat) : Bool := 0x100000 ≤ a && a < 0x140000

/-- Service 1, HANDLER (R394). -/
def State.svcHandler (s : State) (a0 a1 : Word) : State :=
  if !(s.running && s.coreRuns) then s
  else
    let ok := (a0.toNat < 16 ∨ a0 = 0x80000003 ∨ a0 = 0x80000007 ∨ a0 = 0x8000000B) ∧ (a1 = 0 ∨ inSram a1.toNat)
    if !ok then s.svcReturn 5 s.core.a1.toNat
    else
      let s := s.modCore (fun c =>
        let rest := c.handlers.filter (fun p => p.1 != a0)
        { c with handlers := if a1 = 0 then rest else (a0, a1) :: rest })
      s.svcReturn 0 s.core.a1.toNat

def execSvcHandler (a0 : Word) (a1 : Word) (s : State) : Host.Outcome State Fault Refusal := .next (s.svcHandler a0 a1)

/-! ### Debug access (R404, R407, R408) -/

/-- Debug access is open by lifecycle state (R407). -/
def lifeOpen : Life → Bool
  | .raw | .test | .rma => true
  | _ => false

/-- The debugger halts or resumes the core (R404). -/
def State.debugHalt (s : State) (halt : Bool) : State :=
  let p := (s.rd 0x160C).toNat
  if !s.running || !s.flag DBG_STAT_EN || !p.testBit 0 || (s.flag DBG_STAT_HALTED == halt) then s
  else
    let s := (s.wr 0x160C (BitVec.ofNat 32 (putBits p 2 1 (if halt then 1 else 0)))).putB DBG_STAT_HALTED halt
    if halt then s.ev pageDBG 2 else s

def execDebugHalt (halt : Bool) (s : State) : Host.Outcome State Fault Refusal := .next (s.debugHalt halt)

/-- Debug access closes by `RELOCK` in PROD and FIELD (R407). -/
def State.debugClose (s : State) : State :=
  if s.shadow.life = .prod ∨ s.shadow.life = .field then (s.putB DBG_STAT_EN false).putB DBG_STAT_UNLOCKED false else s

/-- A fresh nonce, unless a failed attempt is less than 1 s past (R408). -/
def State.debugNonce (s : State) : State :=
  if s.time.loc < s.dbg.holdEnd then s
  else
    let (a, s) := s.draw
    let (b, s) := s.draw
    { ((s.wr 0x1724 (Config.nonceWord a)).wr 0x1728 (Config.nonceWord b)) with dbg := { s.dbg with nonce := true } }

/-- A write of `DBG.CMD`. -/
def State.dbgCmd (s : State) (data : Nat) : State :=
  let s := if data.testBit 1 then s.debugClose else s
  if data.testBit 0 then s.debugNonce else s

/-- The high response word ends the attempt (R408). -/
def State.debugRespond (s : State) (hi : Word) : State :=
  let n0 := s.rd 0x1724
  let n1 := s.rd 0x1728
  let got := s.dbg.respL.toNat + hi.toNat * 2 ^ 32
  let good := match s.shadow.key with
    | some key => s.dbg.nonce && decide (s.response key n0 n1 [0x44] = got)
    | none => false
  let s := { s with dbg := { s.dbg with nonce := false } }
  if good && s.shadow.life != .scrap then ((s.putB DBG_STAT_EN true).putB DBG_STAT_UNLOCKED true).ev pageDBG 0
  else { s with dbg := { s.dbg with holdEnd := s.time.loc + 1000000000 } }.ev pageDBG 1

end Sys2Proof.Machine
end

