-- ==== Sys2Proof/Machine/Otp.lean ====
section
/-!
DEFINITION. Sys2Proof/Machine/Otp.lean: one-time-programmable memory (chapter 19).
-/

namespace Sys2Proof.Machine

/-! ### Words and regions (R431, R432) -/

def otpDflt : Nat → OtpWord := fun _ => OtpWord.blank

/-- A word of an OTP array. -/
def otpGet (m : List (Nat × OtpWord)) (k : Nat) : OtpWord := sparseGet otpDflt m k

/-- The word of the fuses as they are now. -/
def State.fuse (s : State) (k : Nat) : OtpWord := otpGet s.otp k

/-- The region of a word: 0 TRIM, 1 IDENT, 2 FEAT, 3 CUST, 4 KEY, 5 LIFE, 6 the LOCK word, 7 reserved (R432). -/
def otpRegion (k : Nat) : Nat :=
  if k < 0x140 then 0 else if k < 0x148 then 1 else if k < 0x150 then 2 else if k < 0x1D0 then 3
  else if k < 0x1DA then 4 else if k < 0x1DC then 5 else if k = 0x1DC then 6 else 7

/-- First data word and number of data words of a region with a digest. -/
def regionSpan : Nat → Nat × Nat
  | 0 => (0, 0x13E) | 1 => (0x140, 6) | 2 => (0x148, 6) | 3 => (0x150, 0x7E) | _ => (0x1D0, 8)

/-- First digest word of a region. -/
def digestWord (r : Nat) : Nat := (regionSpan r).1 + (regionSpan r).2

/-- Bit `k` of the LOCK word as it reads (R432). -/
def otpLock (m : List (Nat × OtpWord)) (k : Nat) : Bool := bit (otpGet m 0x1DC).normal.toNat k

/-- The digest of a region over the normal reads of an array, low word first (R440). -/
def otpDigest (m : List (Nat × OtpWord)) (r : Nat) : Word × Word :=
  let (a, n) := regionSpan r
  let d := sha256 ((BitVec.ofNat 8 r) :: bytesOf ((List.range n).map (fun k => (otpGet m (a + k)).normal)))
  let w (j : Nat) : Word := BitVec.ofNat 32 ((List.range 4).foldl (fun x i => x + (d.getD (4 * j + i) 0).toNat * 2 ^ (8 * i)) 0)
  (w 0, w 1)

/-! ### Lifecycle (R435, R436) -/

/-- The five groups of lifecycle fuses, TEST to SCRAP. -/
def lifeGroups (m : List (Nat × OtpWord)) : List Nat :=
  let a := (otpGet m 0x1DA).normal.toNat
  [bitsOf a 0 8, bitsOf a 8 8, bitsOf a 16 8, bitsOf a 24 8, bitsOf (otpGet m 0x1DB).normal.toNat 0 8]

def lifeOf : Nat → Life
  | 1 => .test | 2 => .prod | 3 => .field | 4 => .rma | 5 => .scrap | _ => .raw

def lifeCode : Life → Nat
  | .raw => 0 | .test => 1 | .prod => 2 | .field => 3 | .rma => 4 | .scrap => 5

/-- The state of the fuses: the last blown group, as its code (R435). -/
def lifeFused (m : List (Nat × OtpWord)) : Nat :=
  let g := lifeGroups m
  (List.range 5).foldl (fun x k => if 5 ≤ popcount 8 (g.getD k 0) then k + 1 else x) 0

/-- A group is partly blown (R435). -/
def lifePartial (m : List (Nat × OtpWord)) : Bool :=
  (lifeGroups m).any (fun g => decide (1 ≤ popcount 8 g ∧ popcount 8 g ≤ 4))

/-! ### Start-up verification and shadow load (R14, R201, R205, R433 to R435, R440, R441) -/

/-- 0 OPEN, 1 VALID, 2 INCOMPLETE (R440). -/
def regionState (m : List (Nat × OtpWord)) (r : Nat) : Nat :=
  if !otpLock m r then 0
  else
    let d := ((otpGet m (digestWord r)).normal, (otpGet m (digestWord r + 1)).normal)
    if d ≠ (0, 0) ∧ d = otpDigest m r then 1 else 2

/-- A word whose margin reads differ (R440). -/
def OtpWord.marginal (w : OtpWord) : Bool := w.high != w.low

/-- The coefficient words of a converter trim (R433), in the order of R203. -/
def trimSet (t : Word) (tcal : Nat) : List Word :=
  let x := t.toNat
  let o := signed 12 (bitsOf x 0 12)
  let g := signed 14 (bitsOf x 12 14)
  let l := signed 6 (bitsOf x 26 6)
  [unsigned 24 (8 * o), unsigned 24 (16 * g), unsigned 16 (64 * l), tcal % 65536].map (BitVec.ofNat 32)

/-- Trim word of a converter and range type (R433). -/
def trimWord (c rng : Nat) : Nat := if c < 64 then 2 * c + rng else if c < 128 then 0x080 + (c - 64) else 0x0C0 + 3 * (c - 128) + rng

/-- Loads every coefficient set (R205, R433). -/
def State.loadCoefs (s : State) (word : Nat → Word) (tcal : Nat) : State :=
  let put (t : State) (c rng : Nat) : State :=
    let ws := trimSet (word (trimWord c rng)) tcal
    (List.range 20).foldl (fun u k => u.setCoef (coefKey c (k / 4) rng (k % 4)) (ws.getD (k % 4) 0)) t
  (List.range 136).foldl (fun t c => ([0, 1, 2].filter (hasSet c)).foldl (fun u r => put u c r) t) { s with cal := { s.cal with coef := [] } }

/-- The default thresholds of slots 2 to 7 (R52): UV_TH and OV_TH, from a code of each limit. -/
def vendorThreshold : Nat → Nat
  | 2 => 2490 + 2753 * 4096 | 3 => 2568 + 2839 * 4096 | 4 => 2802 + 3097 * 4096 | 5 => 1946 + 2150 * 4096
  | 6 => 1868 + 2064 * 4096 | _ => 1946 + 2150 * 4096

/-- The word that the blocks take from a region: zero where the region is INCOMPLETE (R441). -/
def shadowWord (m : List (Nat × OtpWord)) (r k : Nat) : Word := if regionState m r = 2 then 0 else (otpGet m k).normal

/-- The lanes that `FEAT.LANES` gives (R434). -/
def lanesOf (n : Nat) : Nat := if n = 1 then 16 else if n = 2 then 32 else if n = 3 then 64 else 0

/-- What the blocks take from the fuses (R433 to R435, R441). -/
def shadowOf (m : List (Nat × OtpWord)) : Shadow :=
  let feat := (shadowWord m 2 0x148).toNat
  let cust := (shadowWord m 3 0x150).toNat
  let ks := (List.range 8).map (fun i => shadowWord m 4 (0x1D0 + i))
  { lanes := lanesOf (bitsOf feat 0 3)
    eis := feat.testBit 8, nimh := feat.testBit 9, grading := feat.testBit 10
    wdiSrc := (shadowWord m 3 0x151).toNat.testBit 0
    life := lifeOf (lifeFused m), tcal := signed 16 ((shadowWord m 0 0x0D8).toNat % 65536)
    serial := (shadowWord m 1 0x140).toNat + (shadowWord m 1 0x141).toNat * 2 ^ 32
    key := if ks.all (· == 0) then none else some ks
    addr := if cust.testBit 31 then some (cust % 2 ^ 18) else none
    vmodel := (shadowWord m 0 0x0DA, shadowWord m 0 0x0DB) }

/-- The thresholds of the supervisor's slots, and VREF_EST (R52, R201, R433, R441). -/
def State.loadTrims (s : State) (m : List (Nat × OtpWord)) : State :=
  let bad := regionState m 0 = 2
  let s := (s.loadCoefs (shadowWord m 0) ((shadowWord m 0 0x0D8).toNat % 65536)).put CAL_VREFEST_VREF
    (if bad then 5000000 else (shadowWord m 0 0x0D9).toNat % 2 ^ 23)
  [2, 3, 4, 5, 6, 7].foldl (fun t k =>
    let th := if bad then vendorThreshold k else (shadowWord m 0 (0x0DA + k)).toNat % 2 ^ 24
    (t.put (SUP_RAILCFG_UV_TH k) (th % 4096)).put (SUP_RAILCFG_OV_TH k) (th / 4096)) s

/-- The registers that report the verification (R435, R440, R447). -/
def State.reportOtp (s : State) (m : List (Nat × OtpWord)) : State :=
  let st := (List.range 5).map (regionState m)
  let marg := (m.filter (fun p => p.1 < 0x1DD && p.2.marginal)).map (fun p => p.1)
  let sum (xs : List Nat) : Nat := xs.foldl (· + ·) 0
  let s := s.put OTP_REGSTAT_STATE (sum ((List.range 5).map (fun r => st.getD r 0 * 4 ^ r)))
  let s := s.put OTP_REGSTAT_RLOCK (bitsOf (otpGet m 0x1DC).normal.toNat 8 6)
  let s := s.put OTP_REGSTAT_MARG (sum ((List.range 6).map (fun r => if marg.any (fun k => otpRegion k == r) then 2 ^ r else 0)))
  let s := ((s.put OTP_LIFE_STATE (lifeFused m)).putB OTP_LIFE_PARTIAL (lifePartial m)).putB OTP_LIFE_FROZEN (otpLock m 5)
  let s := if marg.isEmpty then s
    else ((s.put OTP_MARG_COUNT marg.length).put OTP_MARG_FIRST (marg.getD 0 0)).putB OTP_MARG_VALID true
  s.raise pageOTP ((if st.any (· == 2) then 1 else 0) + (if marg.isEmpty then 0 else 2) + (if lifePartial m then 4 else 0))

/-- t1 of R84: every word read under three references, regions classified, and the blocks' shadows taken. -/
def State.shadowLoad (s : State) : State :=
  let m := s.otp
  let sh := shadowOf m
  let s := { s with shadow := sh, otpc := { OtpCtl.reset with boot := m } }
  ((s.loadTrims m).reportOtp m).putB DBG_STAT_EN (lifeOpen sh.life)

/-! ### On-demand reads (R438, R439) -/

/-- A write of `RDADDR` starts a read, or replaces the one in progress. -/
def State.otpReadStart (s : State) : State := s.putB OTP_RDSTAT_BUSY true

/-- `OTP_READ_DONE`; a read waits for a programming command. -/
def State.otpReadDone (s : State) : State :=
  if !s.running || !s.flag OTP_RDSTAT_BUSY || s.otpc.op != 0 then s
  else
    let k := s.get OTP_RDADDR_WORD
    let r := otpRegion k
    let locked := r ≤ 5 && otpLock s.otp (8 + r) && r != 5
    let w := s.fuse k
    let v := match s.get OTP_RDADDR_MODE with
      | 1 => w.high
      | 2 => w.low
      | _ => w.normal
    let s := ((s.wr 0x624 (if locked || r == 7 then 0 else v)).putB OTP_RDSTAT_BUSY false).putB OTP_RDSTAT_LOCKED locked
    if locked then s.ev pageOTP 8 else s

def execOtpReadDone (s : State) : Host.Outcome State Fault Refusal := .next s.otpReadDone

/-! ### Programming (R436, R437, R442 to R444) -/

/-- PROGRAM is allowed for a region in a lifecycle state (R437). -/
def regionAllowed (r : Nat) (l : Life) : Bool :=
  match r, l with
  | 0, .raw | 0, .test | 1, .raw | 1, .test | 2, .test => true
  | 3, .test | 3, .prod | 3, .field | 4, .test | 4, .prod => true
  | _, _ => false

/-- Bits of LOCK that PROGRAM may blow in a lifecycle state; bits 5 and 13 are LIFE's (R437, R445). -/
def lockAllowed (k : Nat) (l : Life) : Bool :=
  k == 5 || k == 13 || (k < 5 && regionAllowed k l) || (8 ≤ k && k < 13 && regionAllowed (k - 8) l)

/-- The bits of a word. -/
def bitsSet (x : Nat) : List Nat := (List.range 32).filter (fun i => x.testBit i)

/-- PROGRAM (R437, R442): a refusal reason, or the bits to blow. -/
def State.planProgram (s : State) : Nat × List (Nat × Nat) :=
  let k := s.get OTP_PGMADDR_WORD
  let d := (s.rd 0x630).toNat
  let r := otpRegion k
  let todo := ((bitsSet d).filter (fun i => !(s.fuse k).normal.toNat.testBit i)).map (fun i => (k, i))
  if r = 6 then if (bitsSet d).all (fun i => lockAllowed i s.shadow.life) then (0, todo) else (1, [])
  else if !regionAllowed r s.shadow.life then (1, [])
  else if otpLock s.otp r then (2, [])
  else (0, todo)

/-- FINALISE (R442). -/
def State.planFinalise (s : State) (r : Nat) : Nat × List (Nat × Nat) :=
  if 5 ≤ r ∨ !regionAllowed r s.shadow.life then (1, [])
  else if otpLock s.otp r then (2, [])
  else
    let (d0, d1) := otpDigest s.otp r
    let a := digestWord r
    let h (j : Nat) : Nat := (s.fuse (a + j)).normal.toNat
    let need (j : Nat) (d : Word) : List (Nat × Nat) := ((bitsSet d.toNat).filter (fun i => !(h j).testBit i)).map (fun i => (a + j, i))
    if h 0 &&& d0.toNat ≠ h 0 ∨ h 1 &&& d1.toNat ≠ h 1 then (7, [])
    else (0, need 0 d0 ++ need 1 d1 ++ [(0x1DC, r)] ++ (if r = 4 then [(0x1DC, 12)] else []))

/-- LIFE (R436). -/
def State.planLife (s : State) (t : Nat) : Nat × List (Nat × Nat) :=
  let l := s.shadow.life
  let ok := match l, t with
    | .raw, 1 | .test, 2 | .prod, 3 | .prod, 4 | .field, 4 => true
    | .scrap, _ => false
    | _, 5 => true
    | _, _ => false
  if otpLock s.otp 5 then (2, [])
  else if !ok then (1, [])
  else if l = .test ∧ t = 2 ∧ !([0, 1, 2].all (fun r => bitsOf (s.get OTP_REGSTAT_STATE) (2 * r) 2 == 1)) then (8, [])
  else
    let (w, lo) := if t = 5 then (0x1DB, 0) else (0x1DA, 8 * (t - 1))
    (0, (List.range 8).map (fun i => (w, lo + i)))

/-- A command is refused (R442, R444). -/
def State.otpRefuse (s : State) (reason : Nat) : State :=
  ((s.put OTP_PGMSTAT_RESULT 2).put OTP_PGMSTAT_REASON reason).ev pageOTP 4

/-- A write of `PGMCMD` (R442, R444). -/
def State.pgmCmd (s : State) (data : Nat) : State :=
  let op := bitsOf data 0 2
  if op = 0 then s
  else if s.otpc.op ≠ 0 then s.otpRefuse 5
  else if bitsOf data 24 8 ≠ 0x5A then s.otpRefuse 4
  else if s.mode != .standby then s.otpRefuse 6
  else if !s.pins.vqps then s.otpRefuse 3
  else
    let r := bitsOf data 4 3
    let plan := if op = 1 then s.planProgram else if op = 2 then s.planFinalise r else s.planLife (bitsOf data 8 3)
    let word := if op = 1 then s.get OTP_PGMADDR_WORD else if op = 2 then digestWord r else 0x1DA + (if bitsOf data 8 3 = 5 then 1 else 0)
    if plan.1 ≠ 0 then s.otpRefuse plan.1
    else
      let s := (s.wr 0x638 0).putB OTP_PGMSTAT_BUSY true
      { (s.put OTP_PGMSTAT_WORD word) with otpc := { s.otpc with op := op, todo := plan.2, region := r } }

/-- Sets one bit of a word under the references that `lvl` names: 1 margin-low, 2 also normal, 3 also margin-high. -/
def OtpWord.setBit (w : OtpWord) (i lvl : Nat) : OtpWord :=
  let b : Word := BitVec.ofNat 32 (2 ^ i)
  { normal := if 2 ≤ lvl then w.normal ||| b else w.normal
    high := if 3 ≤ lvl then w.high ||| b else w.high
    low := if 1 ≤ lvl then w.low ||| b else w.low }

/-- Blows one bit to a level. -/
def State.blow (s : State) (p : Nat × Nat) (lvl : Nat) : State :=
  { s with otp := sparseSet otpDflt s.otp p.1 ((s.fuse p.1).setBit p.2 lvl) }

/-- A command ends: its bits up to `n` are blown. -/
def State.blowTo (s : State) (n : Nat) : State := (s.otpc.todo.take n).foldl (fun t p => t.blow p 3) s

/-- The controller is free, with the result. -/
def State.otpFree (s : State) (result : Nat) : State :=
  { (((s.putB OTP_PGMSTAT_BUSY false).put OTP_PGMSTAT_RESULT result).put OTP_PGMSTAT_REASON 0) with
    otpc := { s.otpc with op := 0, todo := [] } }

/-- Reports the place of a failure or an abort. -/
def State.otpPlace (s : State) (p : Nat × Nat) : State := (s.put OTP_PGMSTAT_WORD p.1).put OTP_PGMSTAT_BIT p.2

/-- The digest words of a finalisation verify at margin-high (R442). -/
def State.digestGood (s : State) (r : Nat) : Bool :=
  let (d0, d1) := otpDigest s.otp r
  (s.fuse (digestWord r)).high == d0 && (s.fuse (digestWord r + 1)).high == d1

/-- `OTP_CMD_DONE`: all bits verified, or a copy of the bit at a place of the command did not (R442). -/
def State.otpDone (s : State) (fail : Option Nat) : State :=
  let c := s.otpc
  if !s.running || c.op = 0 then s
  else match fail with
    | some k =>
      let k := min k (c.todo.length - 1)
      let s := s.blowTo (k + 1)
      ((s.otpPlace (c.todo.getD k (0, 0))).otpFree 4).raise pageOTP 0x48
    | none =>
      let dig := c.todo.filter (fun p => p.1 ≠ 0x1DC)
      let t := dig.foldl (fun u p => u.blow p 3) s
      if c.op = 2 ∧ !t.digestGood c.region then (t.otpFree 4).raise pageOTP 0x48
      else ((s.blowTo c.todo.length).otpFree 1).raise pageOTP (if c.op = 2 then 0x88 else 0x08)

def execOtpCmdDone (fail : Option Nat) (s : State) : Host.Outcome State Fault Refusal := .next (s.otpDone fail)

/-- A command stops within the bit at a place (R443): bits before it are blown, that bit is indeterminate, the rest untouched. -/
def State.otpStop (s : State) (k : Nat) (event : Bool) : State :=
  let c := s.otpc
  if c.op = 0 then s
  else
    let k := min k (c.todo.length - 1)
    let (n, s) := s.draw
    let s := s.blowTo k
    let p := c.todo.getD k (0, 0)
    let s := if c.todo.isEmpty then s else (s.blow p (Config.fuseState n)).otpPlace p
    let s := s.otpFree 3
    if event then s.ev pageOTP 5 else s

/-- A reset or a last gasp ends a command (R443); which bit it meets is free. -/
def State.otpCut (s : State) : State :=
  if s.otpc.op = 0 then s
  else
    let (n, s) := s.draw
    s.otpStop (Config.fuseBit n % max 1 s.otpc.todo.length) false

/-- `PGM_ABORT`: VQPS leaves its window within the bit at a place of the command (R443). -/
def execPgmAbort (bit : Nat) (s : State) : Host.Outcome State Fault Refusal :=
  .next (if s.running then { (s.otpStop bit true) with pins := { s.pins with vqps := false } } else s)

/-- Registers that show the fuses live or a chosen digest (R435, R447). -/
def State.otpShown (s : State) (off : Nat) : Option Word :=
  match off with
  | 0x40 => some (BitVec.ofNat 32 (putBits (s.rd 0x640).toNat 5 3 (lifeFused s.otp)))
  | 0x4C => some (if s.get OTP_DIGSEL_REGION < 5 then (otpDigest s.otpc.boot (s.get OTP_DIGSEL_REGION)).1 else 0)
  | 0x50 => some (if s.get OTP_DIGSEL_REGION < 5 then (otpDigest s.otpc.boot (s.get OTP_DIGSEL_REGION)).2 else 0)
  | _ => none

end Sys2Proof.Machine
end

