-- ==== Sys2Proof/Machine/Rtc.lean ====
section
/-!
DEFINITION. Sys2Proof/Machine/Rtc.lean: the real-time clock and the plinth domain (chapter 20).

CLK_RTC cycles pass with the commands of this chapter: each says how many have passed since the one before, and a carry
or a wake period passes as many as it needs.
-/

namespace Sys2Proof.Machine

def State.modPl (s : State) (f : Plinth → Plinth) : State := { s with pl := f s.pl }

/-- Sets a flag of `PLSTAT` and its event (R468); without main power only the flag. -/
def State.plFlag (s : State) (k : Nat) : State :=
  let s := s.wr 0x94C (s.rd 0x94C ||| BitVec.ofNat 32 (2 ^ k))
  if s.alive then s.ev pageRTC k else s

/-! ### Calendar (R453 to R456) -/

/-- Days of a month (R453). -/
def dim (month year : Nat) : Nat :=
  match month with
  | 2 => if year % 4 = 0 then 29 else 28
  | 4 | 6 | 9 | 11 => 30
  | _ => 31

/-- A calendar time as one number for comparison (R459), from an A and a B word. -/
def calTime (a b : Nat) : Nat :=
  bitsOf b 14 7 * 2 ^ 26 + bitsOf b 10 4 * 2 ^ 22 + bitsOf b 5 5 * 2 ^ 17 + bitsOf b 0 5 * 2 ^ 12 + bitsOf a 21 6 * 2 ^ 6 + bitsOf a 15 6

def State.now (s : State) : Nat := calTime (s.rd 0x924).toNat (s.rd 0x928).toNat
def State.alarmTime (s : State) : Nat := calTime (s.rd 0x940).toNat (s.rd 0x944).toNat

/-- The alarm fires, by a jump or not, and is disarmed (R459). -/
def State.alarmFire (s : State) (jump : Bool) : State :=
  let s := (s.putB RTC_PLSTAT_ARMED false).plFlag 2
  if jump then s.plFlag 3 else s

/-- One field at a carry: its new value and whether it carries on. -/
def carryField (top least x : Nat) : Nat × Bool := if top ≤ x then (least, true) else (x + 1, false)

/-- A carry into SEC (R453). -/
def State.secCarry (s : State) : State :=
  let (sec, c) := carryField 59 0 (s.get RTC_CALA_SEC)
  let s := s.put RTC_CALA_SEC sec
  if !c then s
  else
    let (mi, c) := carryField 59 0 (s.get RTC_CALA_MIN)
    let s := s.put RTC_CALA_MIN mi
    if !c then s
    else
      let (h, c) := carryField 23 0 (s.get RTC_CALB_HOUR)
      let s := s.put RTC_CALB_HOUR h
      if !c then s
      else
        let s := s.put RTC_CALB_WDAY (carryField 7 1 (s.get RTC_CALB_WDAY)).1
        let (d, c) := carryField (dim (s.get RTC_CALB_MONTH) (s.get RTC_CALB_YEAR)) 1 (s.get RTC_CALB_DAY)
        let s := s.put RTC_CALB_DAY d
        if !c then s
        else
          let (m, c) := carryField 12 1 (s.get RTC_CALB_MONTH)
          let s := s.put RTC_CALB_MONTH m
          if !c then s else s.put RTC_CALB_YEAR (carryField 99 0 (s.get RTC_CALB_YEAR)).1

/-- SS wraps: the carry, unless a shift suppressed it, and the alarm's match (R453, R456, R459). -/
def State.secondTick (s : State) : State :=
  if 0 < s.pl.supp then s.modPl (fun p => { p with supp := p.supp - 1 })
  else
    let s := s.secCarry
    if s.flag RTC_PLSTAT_ARMED ∧ s.now = s.alarmTime then s.alarmFire false else s

/-! ### The trimmed tick stream (R457, R460) -/

/-- CLK_RTC cycles of a trim window. -/
def trimWindow : Nat := 1048576

/-- Trim actions at cycles below `x`, for |CALP| = m. -/
def trimPoints (m x : Nat) : Nat := divCeil (x * m) trimWindow

/-- CALP of the register, -512 acting as -511. -/
def State.calpReg (s : State) : Int := max (-511) (s.getI RTC_TRIM_CALP)

/-- Ticks of `n` cycles from place `p` of a window under one CALP. -/
def ticksOf (calp : Int) (p n : Nat) : Nat :=
  let pts := trimPoints calp.natAbs (p + n) - trimPoints calp.natAbs p
  if 0 < calp then n + pts else n - pts

/-- Ticks of the next `n` cycles: a new CALP acts from the next window. -/
def State.rtcTicks (s : State) (n : Nat) : Nat :=
  let left := trimWindow - s.pl.win
  if n ≤ left then ticksOf s.pl.calp s.pl.win n
  else ticksOf s.pl.calp s.pl.win left + ticksOf s.calpReg 0 (n - left)

/-- The least number of cycles, found in `fuel` halvings of [lo, lo + 2^fuel), that gives `need` ticks. -/
def State.cyclesFor (s : State) (need : Nat) : Nat → Nat → Nat
  | 0, lo => lo
  | f + 1, lo => if need ≤ s.rtcTicks (lo + 2 ^ f - 1) then s.cyclesFor need f lo else s.cyclesFor need f (lo + 2 ^ f)

/-- Ticks of a wake period, 0 where the wake is stopped (R460). -/
def State.wakeTicks (s : State) : Nat := s.get RTC_WAKE_WKCNT * (if s.flag RTC_WAKE_WKUNIT then 32768 else 128)

/-- Times SS wraps in the next `n` cycles. -/
def State.rtcWraps (s : State) (n : Nat) : Nat := (s.get RTC_CALA_SS + s.rtcTicks n) / 32768

/-- `n` CLK_RTC cycles pass for SS, the trim window and the periodic wake (R457, R460), and the mirror of `BAKCNT` follows (R452). -/
def State.rtcCount (s : State) (n : Nat) : State :=
  let t := s.rtcTicks n
  let w := s.pl.win + n
  let calp := s.calpReg
  let per := s.wakeTicks
  let wk := s.pl.wk + t
  let s := s.put RTC_CALA_SS ((s.get RTC_CALA_SS + t) % 32768)
  let s := if n = 0 ∨ s.frz pageRTC then s else s.put RTC_PWR_BAKCNT s.pl.bakcnt
  let s := s.modPl (fun p => { p with
    win := w % trimWindow, calp := if trimWindow ≤ w then calp else p.calp, wk := if per = 0 then 0 else wk % per })
  if per ≠ 0 ∧ per ≤ wk then s.plFlag 4 else s

/-- The seconds of `k` wraps of SS. -/
def State.rtcCarries (s : State) (k : Nat) : State := (List.range k).foldl (fun u _ => u.secondTick) s

/-- `n` CLK_RTC cycles pass: SS, the calendar and the periodic wake take their ticks. -/
def State.rtcPass (s : State) (n : Nat) : State := (s.rtcCount n).rtcCarries (s.rtcWraps n)

/-- `RTC_SECOND_CARRY`: CLK_RTC runs until SS wraps. -/
def execRtcSecondCarry (s : State) : Host.Outcome State Fault Refusal :=
  .next (s.rtcPass (s.cyclesFor (32768 - s.get RTC_CALA_SS) 17 0))

/-- `RTC_WAKE_PERIOD`: CLK_RTC runs until the wake period ends. -/
def execRtcWakePeriod (s : State) : Host.Outcome State Fault Refusal :=
  .next (if s.wakeTicks = 0 then s else s.rtcPass (s.cyclesFor (s.wakeTicks - s.pl.wk) 32 0))

/-! ### Commands of the page at the edge at which they take effect (R451, R452, R455 to R459, R463) -/

/-- LOAD (R455, R459): the calendar but for SS, and the alarm that it jumps over. -/
def State.rtcLoad (s : State) : State :=
  let old := s.now
  let a := (s.rd 0x92C).toNat
  let s := (s.wr 0x924 (BitVec.ofNat 32 (putBits a 0 15 (s.get RTC_CALA_SS) % 2 ^ 27))).wr 0x928 (BitVec.ofNat 32 ((s.rd 0x930).toNat % 2 ^ 24))
  let s := s.modPl (fun p => { p with loaded := true })
  if s.flag RTC_PLSTAT_ARMED ∧ old < s.alarmTime ∧ s.alarmTime ≤ s.now then s.alarmFire true else s

/-- SHIFT (R456). -/
def State.rtcShift (s : State) : State :=
  let v := max (-32767) (s.getI RTC_SHIFT_TICKS)
  let x := (s.get RTC_CALA_SS : Int) + v
  let s := s.put RTC_CALA_SS (x % 32768).toNat
  if 32767 < x then s.secondTick
  else if x < 0 then s.modPl (fun p => { p with supp := p.supp + 1 })
  else s

/-- SNAP (R458): the calendar words that the edge leaves, and plant time. -/
def State.rtcSnap (s : State) (a b : Word) : State :=
  let pt := s.time.ptime
  ((((s.wr 0x964 a).wr 0x968 b).put RTC_SNAPPTL_T (pt % 2 ^ 32)).put RTC_SNAPPTH_T (pt / 2 ^ 32)).ev pageRTC 8

/-- ARM (R459). -/
def State.rtcArm (s : State) : State := s.putB RTC_PLSTAT_ARMED true

/-- The stamps of an input. -/
def State.stamps (s : State) (i : Nat) : List (Word × Word) := s.pl.fifos.toList.getD i []
def State.setStamps (s : State) (i : Nat) (x : List (Word × Word)) : State :=
  s.modPl (fun p => { p with fifos := p.fifos.setIfInBounds i x })

/-- POP of the inputs whose bits are set (R463). -/
def State.rtcPopInputs (s : State) (m : Nat) : State :=
  (List.range 4).foldl (fun t i => if m.testBit i then t.setStamps i ((t.stamps i).drop 1) else t) s

/-- A word written to `CMD` takes effect at an edge.  ARM acts before the edge's carry; a LOAD takes that carry in the loaded
calendar (R455, R465); then SNAP of the calendar that the edge leaves without a LOAD, SHIFT and POP. -/
def State.rtcCmd (s : State) (d : Nat) : State :=
  let s := if d.testBit 3 then s.rtcArm else s
  let t := s.rtcPass 1
  let s := if d.testBit 0 then ((s.rtcCount 1).rtcLoad).rtcCarries (s.rtcWraps 1) else t
  let s := if d.testBit 2 then s.rtcSnap (t.rd 0x924) (t.rd 0x928) else s
  let s := if d.testBit 1 then s.rtcShift else s
  s.rtcPopInputs (bitsOf d 8 4)

/-- Clears the `PLSTAT` flags that a word names; TLOST only after a LOAD (R451). -/
def State.plstatClear (s : State) (d : Nat) : State :=
  let keep := d.testBit 0 && !s.pl.loaded
  let clr := bitsOf d 0 6 - (if keep then 1 else 0)
  let s := s.wr 0x94C (BitVec.ofNat 32 ((s.rd 0x94C).toNat - ((s.rd 0x94C).toNat &&& clr)))
  if keep then s.ev pageRTC 7 else s

/-- The writable fields of a plinth register take a word (R107, R467). -/
def State.plinthStore (s : State) (a : Nat) (v : Word) : State :=
  let m := BitVec.ofNat 32 (regRow a).rw
  s.wr a ((s.rd a &&& ~~~m) ||| (v &&& m))

/-- A word written to a plinth register takes effect. -/
def State.plinthEffect (s : State) (a : Nat) (v : Word) : State :=
  match a with
  | 0x94C => s.plstatClear v.toNat
  | 0x954 => s.put RTC_EVSTAT_OVF (s.get RTC_EVSTAT_OVF - (s.get RTC_EVSTAT_OVF &&& bitsOf v.toNat 16 4))
  | 0x940 => (s.plinthStore 0x940 v).putB RTC_PLSTAT_ARMED false
  | 0x944 => (s.plinthStore 0x944 v).putB RTC_PLSTAT_ARMED false
  | 0x948 => (s.plinthStore 0x948 v).modPl (fun p => { p with wk := 0 })
  | _ => s.plinthStore a v

/-- A register of the page that crosses to the plinth domain (R452, R467). -/
def plinthReg (a : Nat) : Bool :=
  a == 0x920 || a == 0x934 || a == 0x93C || a == 0x940 || a == 0x944 || a == 0x948 || a == 0x94C || a == 0x950 || a == 0x954
    || (0x980 ≤ a && a < 0x9C0)

/-- A register that the plinth domain holds: a DEVICE reset leaves it (R467). -/
def plinthHeld (a : Nat) : Bool := (plinthReg a && a != 0x934) || a == 0x924 || a == 0x928 || a == 0x974

/-- A write to a plinth register or to `CMD` starts its crossing, or is refused (R452). -/
def State.plinthPost (s : State) (a : Nat) (v : Word) : State :=
  if s.pl.wr.isSome then s.ev pageRTC 7 else s.modPl (fun p => { p with wr := some (a, v) })

/-- `PLINTH_WRITE_EFFECT`: the second CLK_RTC edge after the write, `cycles` cycles of CLK_RTC (at least one) after the last
command that let some pass. -/
def State.plinthWriteEffect (s : State) (cycles : Nat) : State :=
  match s.pl.wr with
  | none => s
  | some (a, v) =>
    let s := (s.rtcPass (cycles - 1)).modPl (fun p => { p with wr := none })
    if a = 0x934 then s.rtcCmd v.toNat else (s.rtcPass 1).plinthEffect a v

def execPlinthWriteEffect (cycles : Nat) (s : State) : Host.Outcome State Fault Refusal :=
  .next (s.plinthWriteEffect cycles)

/-- A software command of this chapter: its write, which `PSEQ` counts (R107), and with nothing between them the edge at which it
takes effect. -/
def State.rtcWrite (s : State) (a : Nat) (v : Word) (cycles : Nat) : State :=
  if !s.running then s
  else if s.pl.wr.isSome then s.ev pageRTC 7
  else ((s.countMod ⟨0x91C, 0, 16⟩ 1).plinthPost a v).plinthWriteEffect cycles

/-! ### Event inputs (R462) -/

/-- An edge of an input counts: `held` says that a second sample shows the new level too. -/
def State.evinEdge (s : State) (i : Nat) (rising held : Bool) : State :=
  let edge := bitsOf (s.get RTC_EVCFG_EDGE) (2 * i) 2
  let sel := if rising then edge % 2 = 1 else 2 ≤ edge
  let filt := bit (s.get RTC_EVCFG_FILT) i
  if !sel || (filt && !held) then s
  else if 4 ≤ (s.stamps i).length then
    let s := s.put RTC_EVSTAT_OVF (s.get RTC_EVSTAT_OVF ||| 2 ^ i)
    if s.alive then s.ev pageRTC 6 else s
  else
    let a := (s.rd 0x924).toNat % 2 ^ 27 + (if rising then 2 ^ 27 else 0)
    (s.setStamps i (s.stamps i ++ [(BitVec.ofNat 32 a, s.rd 0x928)])).plFlag 5

def execEvinEdge (input : Fin 4) (rising held : Bool) (cycles : Nat) (s : State) : Host.Outcome State Fault Refusal :=
  .next ((s.rtcPass cycles).evinEdge input.val rising held)

/-! ### Supplies (R449, R450) -/

/-- The plinth reset (R450): every plinth register at its reset value, TLOST set. -/
def State.plinthReset (s : State) : State :=
  let p := s.pl
  let s := { s with
    regs := sparseKeep (fun a => !plinthHeld a) s.regs
    pl := { Plinth.reset with main := p.main, hold := p.hold, vbak := p.vbak } }
  if s.alive then s.ev pageRTC 0 else s

/-- A change of source starts the hold (R449). -/
def State.plinthSource (s : State) (main : Bool) : State :=
  let s := s.modPl (fun p => { p with main := main, hold := 8, bakcnt := if main then p.bakcnt else min 255 (p.bakcnt + 1) })
  if s.frz pageRTC then s else s.put RTC_PWR_BAKCNT s.pl.bakcnt

/-- `PLINTH_SUPPLY_SAMPLE`. -/
def State.plinthSample (s : State) (vin : VinLevel) (vbak : Bool) : State :=
  let s := s.modPl (fun p => { p with vbak := vbak })
  let held := s.pl.hold
  let s := s.modPl (fun p => { p with hold := held - 1 })
  if vin = .below ∧ !vbak then s.plinthReset
  else if held ≠ 0 then s
  else if !s.pl.main ∧ vin = .above then s.plinthSource true
  else if s.pl.main ∧ vin = .below ∧ vbak then s.plinthSource false
  else s

def execPlinthSupplySample (vin : VinLevel) (vbak : Bool) (s : State) : Host.Outcome State Fault Refusal :=
  .next (s.plinthSample vin vbak)

/-- `OSC_STOP`: no CLK_RTC edge for 1 ms with main power on (R465). -/
def execOscStop (s : State) : Host.Outcome State Fault Refusal := .next (if s.alive then s.plFlag 1 else s)

/-- The release from a DEVICE reset shows every plinth flag that is set (R451). -/
def State.plinthRelease (s : State) : State := s.raise pageRTC (bitsOf (s.rd 0x94C).toNat 0 6)

/-! ### Reads (R452, R462, R463) -/

/-- Registers that show the FIFOs and the mirrors. -/
def State.rtcShown (s : State) (off : Nat) : Option Word :=
  let x := (s.stamps (s.get RTC_EVSEL_IN)).getD 0 (0, 0)
  match off with
  | 0x54 => some (BitVec.ofNat 32 ((List.range 4).foldl (fun n i => n + (s.stamps i).length * 16 ^ i) (s.get RTC_EVSTAT_OVF * 65536)))
  | 0x5C => some x.1
  | 0x60 => some x.2
  | _ => none

/-- A read of `CALA`, `EVTSA` or `SNAPA` latches its B words for the initiator (R452). -/
def State.rtcRead (s : State) (i : Init) (off : Nat) : Word × State :=
  let v (o : Nat) : Word := (s.rtcShown o).getD (s.rd (0x900 + o))
  let more : List Nat := if off = 0x24 then [0x28] else if off = 0x5C then [0x60] else [0x68, 0x6C, 0x70]
  (v off, s.latch i (fun a => more.any (fun o => a == 0x900 + o)) (more.map (fun o => (0x900 + o, v o))))

end Sys2Proof.Machine
end

