-- ==== Sys2Proof/Machine/LinkLine.lean ====
section
/-!
DEFINITION. Sys2Proof/Machine/LinkLine.lean: link lines and the link layer of each port (chapter 21).

A command that names a port tells what the port received or which of its times ended.  What a port sends is kept in
`Port.out` until the next command of the link.
-/

namespace Sys2Proof.Machine

def State.port (s : State) (x : Nat) : Port := s.ports.toList.getD x Port.reset
def State.modPort (s : State) (x : Nat) (f : Port → Port) : State := { s with ports := s.ports.setIfInBounds x (f (s.port x)) }

/-- `STATE.ST` (R479). -/
def State.lst (s : State) (x : Nat) : Nat := s.get (ULK_STATE_ST x)

/-- The other port of the ring (R470). -/
def otherPort (x : Nat) : Nat := if x % 2 = 0 then x + 1 else x - 1

/-- A port that routing counts as ACTIVE (R504). -/
def State.usable (s : State) (x : Nat) : Bool := s.lst x == 4 && !s.flag (ULK_PARTNER_MISWIRE x)

/-- Adds to a counter that stops at its largest value, unless the page is frozen (R491). -/
def State.ulkAdd (s : State) (x : Nat) (f : Fld) (n : Nat) : State :=
  if s.frz (pageULK x) then s else s.put f (min (s.get f + n) (2 ^ f.w - 1))

/-- The elastic buffer at a SKP (R476): it drops or adds one SKIP inside a SKP of 2 to 4, and takes no other set for a SKP. -/
def elasticSkp (fill : Int) (k : SkpIn) : Int :=
  let f := fill + k.drift
  if k.skips < 2 ∨ 4 < k.skips then f else if 1 ≤ f then f - 1 else if f ≤ -1 then f + 1 else f

/-- Counts the invalid characters of a command (R473), and lets the SKPs adjust the elastic buffer (R476). -/
def State.lineErr (s : State) (x : Nat) (e : LineErr) : State :=
  ((s.ulkAdd x (ULK_ERRCNT_CVCNT x) e.cv).ulkAdd x (ULK_ERRCNT_DISPCNT x) e.disp).modPort x (fun p => { p with
    elastic := e.skps.foldl elasticSkp p.elastic })

/-- No invalid character. -/
def lineClean (e : LineErr) : Bool := e.cv == 0 && e.disp == 0

/-- A new command of the link: what the ports put on their lines is over. -/
def State.lineClear (s : State) : State := { s with ports := s.ports.map (fun p => { p with out := [] }) }

/-- The characters of an item on the line (R475, R482, R484). -/
def LineItem.length : LineItem → Nat
  | .packet _ p => 1 + 4 + 4 * (4 + p.dlen.toNat) + 4 + 1
  | .ack _ _ => 9
  | .nak _ _ => 9
  | .skp => 4

/-- A port puts an item on its line, a SKP before it where the SKP after it would come later than 1,024 characters after the last
(R476). -/
def Port.put (p : Port) (i : LineItem) : Port :=
  if p.chars + i.length + LineItem.skp.length ≤ 1024 then { p with out := p.out ++ [i], chars := p.chars + i.length }
  else { p with out := p.out ++ [.skp, i], chars := i.length }

/-- A port sends an item; the first packet or link control frame ends FRESH (R481). -/
def State.emit (s : State) (x : Nat) (i : LineItem) : State := (s.modPort x (·.put i)).putB (ULK_STATE_FRESH x) false

/-! ### The receive queue (R485) -/

/-- Packets in the receive queue of a port: those for this member and those to be forwarded, each once. -/
def State.qfill (s : State) (x : Nat) : Nat :=
  ((s.rxq.filter (fun r => r.port == x)).map (fun r => r.seq)
    ++ s.outbox.filterMap (fun o => match o.from_ with
      | some (p, q) => if p = x then some q else none
      | none => none)).eraseDups.length

/-- CREDIT of a port: the free entries. -/
def State.credit (s : State) (x : Nat) : Nat := 64 - s.qfill x

/-- The SEQ of the newest packet accepted (R484). -/
def State.lastSeq (s : State) (x : Nat) : Nat := (s.get (ULK_SEQ_EXPECT x) + 255) % 256

/-- Sends an ACK (R485). -/
def State.sendAck (s : State) (x : Nat) : State :=
  if s.lst x ≠ 4 then s
  else (s.emit x (.ack (s.lastSeq x) (s.credit x))).modPort x (fun p => { p with ackCnt := 0 })

/-- Sends a NAK, which is then outstanding (R485). -/
def State.sendNak (s : State) (x : Nat) : State :=
  let s := s.emit x (.nak (s.lastSeq x) (s.credit x))
  (s.modPort x (fun p => { p with nakOut := true })).ulkAdd x (ULK_NAKCNT_NAKTX x) 1

/-- A change that takes packets out of receive queues: each port whose CREDIT rises from 0 sends an ACK (R485). -/
def State.freeing (s : State) (f : State → State) : State :=
  let t := f s
  (List.range 4).foldl (fun u x => if s.credit x = 0 ∧ 0 < t.credit x then u.sendAck x else u) t

/-! ### Tags and fresh state (R481, R488, R501) -/

/-- A tag ends with a local status: the ring walk ends open, or the blocking service returns (R394, R512). -/
def State.tagLocal (s : State) (x status : Nat) (t : TagUse) : State :=
  if t.walk then
    { s with link := { s.link with walk := s.link.walk.map (fun w => if w.ended.isNone then { w with ended := some false } else w) } }
  else match s.core.wait with
    | some w => if w.port = x ∧ w.tag = t.tag then
        (s.svcReturn status s.core.a1.toNat).modCore (fun c => { c with wait := none }) else s
    | none => s

/-- Every tag of a port is freed with local status LINKDOWN (R501). -/
def State.tagsDown (s : State) (x : Nat) : State :=
  let ts := (s.port x).tags
  ts.foldl (fun u t => u.tagLocal x 4 t) (s.modPort x (fun p => { p with tags := [] }))

/-- The sequence state becomes fresh, and the replay buffer and the receive queue are emptied (R481, R488). -/
def State.portFresh (s : State) (x : Nat) : State :=
  let s := { s with
    rxq := s.rxq.filter (fun r => r.port != x)
    outbox := s.outbox.filter (fun o => match o.from_ with
      | some (p, _) => p != x
      | none => true) }
  let s := (s.wr (ULK_SEQ_NEXTTX x).addr 0xFF00).put (ULK_STATE_CREDIT x) 0
  (s.putB (ULK_STATE_FRESH x) true).modPort x (fun p => { p with
    replay := [], rounds := 0, nakOut := false, ackCnt := 0, rxd := false })

/-- Training starts over (R480). -/
def State.untrained (s : State) (x : Nat) : State :=
  s.modPort x (fun p => { p with seen := false, tsRun := 0, ts2Run := 0, chars := 0, elastic := 0 })

/-- The port on which telemetry leaves (R348, R508). -/
def State.tlmPort (s : State) : Option Nat :=
  let p := s.telemetryPacket [] 0
  if p.mc then some 1 else s.route (p.w1.toNat % 2 ^ 20)

/-- PORT reset of a link port (R85, R87, R353): the sequence state, the tags, and telemetry that the port carries. -/
def State.portReset (s : State) (x code : Nat) : State :=
  let s := (((s.portFresh x).tagsDown x).untrained x).resetSeen code
  if s.tlmPort = some x then s.tlmAbandonAll else s

/-! ### Bring-up (R480) -/

/-- Entry into ALIGN: TS1 with SEEN = 0. -/
def State.toAlign (s : State) (x : Nat) : State := ((s.untrained x).putB (ULK_STATE_RXINV x) false).put (ULK_STATE_ST x) 2

/-- Entry into DETECT.  Where nothing holds the line idle and the signal is there, ALIGN follows at once. -/
def State.toDetect (s : State) (x : Nat) (go : Bool) : State :=
  let s := (s.untrained x).put (ULK_STATE_ST x) 1
  if go && s.flag (ULK_STATE_SIGDET x) then s.toAlign x else s

/-- EN is written 1 on a disabled port. -/
def State.portEnable (s : State) (x : Nat) : State := if s.lst x ≠ 0 then s else s.toDetect x true

/-- `WRAPEN` of both ports of a ring, by the resident supervisor (R513). -/
def State.setWrapen (s : State) (x : Nat) (b : Bool) : State :=
  if !s.coreRuns then s else (s.putB (ULK_CFG_WRAPEN x) b).putB (ULK_CFG_WRAPEN (otherPort x)) b

/-- EN is written 0: DISABLED (R480, R513). -/
def State.portDisable (s : State) (x : Nat) : State :=
  if s.lst x = 0 then s
  else
    let s := ((s.portFresh x).untrained x).put (ULK_STATE_ST x) 0
    ((s.putB (ULK_STATE_WRAP x) false).modPort x (fun p => { p with trained := false })).setWrapen x false

/-- Entry into DOWN (R488). -/
def State.portDown (s : State) (x : Nat) : State :=
  let s := s.put (ULK_STATE_ST x) 6
  ((s.ulkAdd x (ULK_LNKCNT_DOWNCNT x) 1).ev (pageULK x) 2).portReset x 9

/-- Entry into RETRAIN (R487). -/
def State.portRetrain (s : State) (x : Nat) : State :=
  let s := s.modPort x (fun p => { p with ts2Run := 0 })
  ((s.put (ULK_STATE_ST x) 5).ulkAdd x (ULK_LNKCNT_RETRAINS x) 1).ev (pageULK x) 1

/-- One resend round: every unacknowledged packet in SEQ order (R486). -/
def State.resend (s : State) (x : Nat) : State :=
  let ps := (s.port x).replay
  if ps.isEmpty then s
  else
    let s := ps.foldl (fun t p => t.emit x (.packet p.1 p.2)) s
    (s.modPort x (fun p => { p with rounds := p.rounds + 1 })).ulkAdd x (ULK_NAKCNT_REPLAYS x) 1

/-- A resend round for want of progress; too many in a row are a retrain condition (R486, R487). -/
def State.resendRound (s : State) (x : Nat) : State :=
  if s.lst x ≠ 4 then s
  else
    let s := s.resend x
    if max 1 (s.get (ULK_TIMING_MAXREPLAY x)) ≤ (s.port x).rounds then s.portRetrain x else s

/-- The port is ACTIVE: turning stops (R489). -/
def State.toActive (s : State) (x : Nat) : State :=
  let s := (s.put (ULK_STATE_ST x) 4).modPort x (fun p => { p with trained := true })
  if s.usable x then s.putB (ULK_STATE_WRAP x) false else s

/-- CONFIG ends in ACTIVE (R480, R481): the partner is latched, a broken pairing is reported, and a fresh partner of a port that is not fresh takes the port DOWN.
Else CREDIT rises from 0, which sends an ACK (R485). -/
def State.portUp (s : State) (x : Nat) : State :=
  let p := s.port x
  let mis := p.peerPort != otherPort x
  let s := ((s.put (ULK_PARTNER_ADDR x) p.peerAddr).put (ULK_PARTNER_PORT x) p.peerPort).putB (ULK_PARTNER_VALID x) true
  let s := (s.putB (ULK_PARTNER_MISWIRE x) mis).toActive x
  let s := s.raise (pageULK x) (if mis then 65 else 1)
  let s := if mis then s.setWrapen x false else s
  if p.peerFresh && (!p.replay.isEmpty || p.rxd) then s.portDown x else s.sendAck x

/-- A training set arrives (R477, R478, R480). -/
def State.trainingSet (s : State) (x : Nat) (ts : TsIn) (two sent16 : Bool) : State :=
  let st := s.lst x
  if !s.running || st < 2 || 5 < st then s
  else
    let s := s.lineErr x ts.err
    let whole := lineClean ts.err && ts.chk
    let s := if whole then
        (s.put (ULK_PARTNER_RXVER x) ts.ver.toNat).putB (ULK_PARTNER_VERERR x) (ts.ver != 1) else s
    let valid := whole && ts.ver == 1
    let s := s.modPort x (fun p => { p with
      tsRun := if valid then p.tsRun + 1 else 0
      ts2Run := if valid && two then p.ts2Run + 1 else 0
      peerFresh := if valid then ts.fresh else p.peerFresh
      peerAddr := if valid then ts.addr.toNat else p.peerAddr
      peerPort := if valid then ts.port.toNat else p.peerPort })
    match st with
    | 2 =>
      let s := s.putB (ULK_STATE_RXINV x) ts.inverted
      let s := s.modPort x (fun p => { p with seen := p.seen || decide (8 ≤ p.tsRun) })
      if (s.port x).seen && valid && ts.seen then
        (s.put (ULK_STATE_ST x) 3).modPort x (fun p => { p with ts2Run := 0 })
      else s
    | 3 => if 8 ≤ (s.port x).ts2Run ∧ sent16 then s.portUp x else s
    | 5 =>
      if valid && ts.fresh then s.portDown x
      else if 8 ≤ (s.port x).ts2Run then
        ((s.toActive x).resend x).modPort x (fun p => { p with rounds := 0 })
      else s
    | _ => s

def execLinkTs1 (port : Fin 4) (x : TsIn) (s : State) : Host.Outcome State Fault Refusal :=
  .next (s.lineClear.trainingSet port.val x false false)

def execLinkTs2 (port : Fin 4) (x : TsIn) (sent16 : Bool) (s : State) : Host.Outcome State Fault Refusal :=
  .next (s.lineClear.trainingSet port.val x true sent16)

/-- `SIGNAL_DETECT` (R472, R480): SIGDET reads 1, and a port in DETECT goes to ALIGN. -/
def State.signalDetect (s : State) (x : Nat) : State :=
  if !s.alive then s
  else
    let s := s.putB (ULK_STATE_SIGDET x) true
    if s.running && s.lst x == 1 then s.toAlign x else s

def execSignalDetect (port : Fin 4) (s : State) : Host.Outcome State Fault Refusal := .next (s.lineClear.signalDetect port.val)

/-- `SIGLOST` (R480, R488, R492). -/
def State.sigLost (s : State) (x : Nat) : State :=
  if !s.alive then s
  else
    let s := s.putB (ULK_STATE_SIGDET x) false
    let s := if s.lst x = 0 then s else s.ev (pageULK x) 9
    match s.lst x with
    | 2 => s.toDetect x false
    | 3 => if (s.port x).trained then s.portDown x else s.toDetect x false
    | 4 => s.portDown x
    | 5 => s.portDown x
    | _ => s

def execSiglost (port : Fin 4) (s : State) : Host.Outcome State Fault Refusal := .next (s.lineClear.sigLost port.val)

/-- `TRAIN_TIMEOUT`: 2 ms in ALIGN or CONFIG (R480). -/
def State.trainTimeout (s : State) (x : Nat) : State :=
  if s.running && (s.lst x == 2 || s.lst x == 3) then (s.ulkAdd x (ULK_LNKCNT_TOCNT x) 1).toDetect x false else s

def execTrainTimeout (port : Fin 4) (s : State) : Host.Outcome State Fault Refusal := .next (s.lineClear.trainTimeout port.val)

/-- `RETRAIN_TIMEOUT`: 2 ms in RETRAIN (R480). -/
def State.retrainTimeout (s : State) (x : Nat) : State := if s.running && s.lst x == 5 then s.portDown x else s

def execRetrainTimeout (port : Fin 4) (s : State) : Host.Outcome State Fault Refusal := .next (s.lineClear.retrainTimeout port.val)

/-- `DOWN_EXIT`: 100 µs in DOWN (R480). -/
def State.downExit (s : State) (x : Nat) : State := if s.running && s.lst x == 6 then s.toDetect x true else s

def execDownExit (port : Fin 4) (s : State) : Host.Outcome State Fault Refusal := .next (s.lineClear.downExit port.val)

/-- `RETRAIN`: invalid characters or lost alignment in ACTIVE (R487). -/
def State.lineRetrain (s : State) (x : Nat) (e : LineErr) : State :=
  if s.running && s.lst x == 4 then (s.lineErr x e).portRetrain x else s

def execLinkRetrain (port : Fin 4) (err : LineErr) (s : State) : Host.Outcome State Fault Refusal :=
  .next (s.lineClear.lineRetrain port.val err)

/-- A port goes to electrical idle keeping its sequence state (R490): DEEP_SLEEP and the last gasp. -/
def State.portIdle (s : State) (x : Nat) : State := if s.lst x = 0 then s else s.toDetect x false

/-! ### Acknowledgement and replay (R484, R486) -/

/-- The frame's SEQ and CREDIT act (R486): packets up to it are freed; an older SEQ frees nothing. -/
def State.acked (s : State) (x seq credit : Nat) : State :=
  let ps := (s.port x).replay
  if ps.any (fun p => p.1 == seq) then
    let s := (s.put (ULK_SEQ_ACKED x) seq).put (ULK_STATE_CREDIT x) credit
    s.modPort x (fun p => { p with replay := (ps.dropWhile (fun q => q.1 != seq)).drop 1, rounds := 0 })
  else if seq = s.get (ULK_SEQ_ACKED x) then s.put (ULK_STATE_CREDIT x) credit
  else s

/-- A link control frame arrives in ACTIVE (R484): none where it is discarded. -/
def State.lcf (s : State) (x : Nat) (f : LcfIn) : State × Bool :=
  let s := s.lineErr x f.err
  if lineClean f.err && f.crcOk then (s, true) else (s.ulkAdd x (ULK_ERRCNT_LCFCNT x) 1, false)

/-- `ACK` (R486). -/
def State.ackIn (s : State) (x : Nat) (f : LcfIn) : State :=
  if !s.running || s.lst x != 4 then s
  else
    let (s, ok) := s.lcf x f
    if ok then s.acked x f.seq.toNat f.credit.toNat else s

def execLinkAck (port : Fin 4) (x : LcfIn) (s : State) : Host.Outcome State Fault Refusal := .next (s.lineClear.ackIn port.val x)

/-- `NAK` (R486, R490). -/
def State.nakIn (s : State) (x : Nat) (f : LcfIn) : State :=
  if !s.running || s.lst x != 4 then s
  else
    let (s, ok) := s.lcf x f
    if !ok then s
    else
      let s := (s.ulkAdd x (ULK_NAKCNT_NAKRX x) 1).ev (pageULK x) 4
      (s.acked x f.seq.toNat f.credit.toNat).resendRound x

def execLinkNak (port : Fin 4) (x : LcfIn) (s : State) : Host.Outcome State Fault Refusal := .next (s.lineClear.nakIn port.val x)

/-- `REPLAY_TO`: no progress for REPLAYTO (R486). -/
def State.replayTo (s : State) (x : Nat) : State :=
  if s.running && s.lst x == 4 && !(s.port x).replay.isEmpty then (s.ev (pageULK x) 5).resendRound x else s

def execReplayTo (port : Fin 4) (s : State) : Host.Outcome State Fault Refusal := .next (s.lineClear.replayTo port.val)

/-- `NAK_RESEND`: the outstanding NAK is sent again (R485). -/
def State.nakResend (s : State) (x : Nat) : State :=
  if s.running && s.lst x == 4 && (s.port x).nakOut then s.sendNak x else s

def execNakResend (port : Fin 4) (s : State) : Host.Outcome State Fault Refusal := .next (s.lineClear.nakResend port.val)

/-- `ACK_TIMER`: ACKT since the first packet not yet acknowledged (R485). -/
def State.ackTimer (s : State) (x : Nat) : State :=
  if s.running && 0 < (s.port x).ackCnt then s.sendAck x else s

def execAckTimer (port : Fin 4) (s : State) : Host.Outcome State Fault Refusal := .next (s.lineClear.ackTimer port.val)

/-! ### Sending packets (R486, R489, R504) -/

/-- Where a waiting packet would leave now (R489): its port, the other port of the ring with WRAPPED set, or nowhere; and whether it is to be
discarded because it would be turned twice. -/
def State.leaves (s : State) (o : OutPkt) : Option Nat × Bool :=
  if s.usable o.port then (some o.port, false)
  else if s.flag (ULK_CFG_WRAPEN o.port) && s.usable (otherPort o.port) then
    if o.pkt.wrapped then (none, true) else (some (otherPort o.port), false)
  else (none, false)

/-- Packets that would be turned a second time are discarded (R489). -/
def State.loopDrop (s : State) : State :=
  let bad := s.outbox.filter (fun o => (s.leaves o).2)
  if bad.isEmpty then s
  else
    let s := s.freeing (fun t => { t with outbox := t.outbox.filter (fun o => !(s.leaves o).2) })
    bad.foldl (fun t o => (t.ulkAdd o.port (ULK_LNKCNT_LOOPCNT o.port) 1).ev (pageULK o.port) 8) s

/-- New packets may be sent (R486). -/
def State.txRoom (s : State) (x : Nat) : Bool :=
  decide ((s.get (ULK_SEQ_NEXTTX x) + 256 - s.get (ULK_SEQ_ACKED x)) % 256 ≤ s.get (ULK_STATE_CREDIT x))
    && decide ((s.port x).replay.length < 128)

/-- A packet waits for this port. -/
def State.txWaits (s : State) (x : Nat) : Bool := s.outbox.any (fun o => (s.leaves o).1 == some x)

/-- `STATE` as read (R491): TXHOLD, UNACK and QFILL over the stored fields. -/
def State.ulkStateWord (s : State) (x : Nat) : Word :=
  let w := (s.rd (ULK_STATE_ST x).addr).toNat
  let w := putBits w 6 1 (if s.txWaits x && !s.txRoom x then 1 else 0)
  BitVec.ofNat 32 (putBits (putBits w 16 8 (s.port x).replay.length) 24 8 (s.qfill x))

/-- Writes a stamp of `t` 1/256 ns into the data words of a TIMESYNC (R520): whole ns at word `k`, the fraction in byte `b` of word 7. -/
def putStamp (ws : List Word) (k b : Nat) (t : Nat) : List Word :=
  let ns := t / 256
  ((ws.set k (BitVec.ofNat 32 ns)).set (k + 1) (BitVec.ofNat 32 (ns / 2 ^ 32))).set 7
    (BitVec.ofNat 32 (putBits (ws.getD 7 0).toNat (8 * b) 8 (t % 256)))

/-- The transmit stamp of a TIMESYNC as it leaves (R521). -/
def stampOut (p : Packet) (t : Nat) : Packet :=
  if p.typ ≠ 7 then p
  else if (p.data.getD 0 0).toNat % 16 = 1 then { p with data := putStamp p.data 1 0 t }
  else { p with data := putStamp p.data 5 2 t }

/-- Takes the first element that satisfies `q` out of a list. -/
def takeFirst {α : Type} (q : α → Bool) : List α → Option (α × List α)
  | [] => none
  | a :: as => if q a then some (a, as) else (takeFirst q as).map (fun r => (r.1, a :: r.2))

/-- `PACKET_TRANSMIT`: the first packet that waits for this port is numbered and sent (R486), or turned (R489). -/
def State.packetTransmit (s : State) (x ahead : Nat) : State :=
  if !s.running || s.lst x != 4 then s
  else
    let s := s.loopDrop
    if !s.txRoom x then s
    else match takeFirst (fun o => (s.leaves o).1 == some x) s.outbox with
      | none => s
      | some (o, rest) =>
        let s := s.freeing (fun t => { t with outbox := rest })
        let turned := o.port != x
        let p := { stampOut o.pkt (s.time.ptime * 256 + ahead) with wrapped := o.pkt.wrapped || turned }
        let n := s.get (ULK_SEQ_NEXTTX x)
        let s := (s.emit x (.packet n p)).modPort x (fun q => { q with replay := q.replay ++ [(n, p)] })
        let s := s.put (ULK_SEQ_NEXTTX x) (n + 1)
        let s := if s.frz (pageULK x) then s else s.countMod (ULK_TXPKT_COUNT x) 1
        if turned && !s.flag (ULK_STATE_WRAP o.port) then (s.putB (ULK_STATE_WRAP o.port) true).ev (pageULK o.port) 7 else s

def execPacketTransmit (port : Fin 4) (ahead : Nat) (s : State) : Host.Outcome State Fault Refusal :=
  .next (s.lineClear.packetTransmit port.val ahead)

/-- `HOLD_DROP`: HOLDTO has passed for the oldest packet of this port that can leave on neither port of its ring (R504). -/
def State.holdDrop (s : State) (x : Nat) : State :=
  if !s.running then s
  else match takeFirst (fun o => o.port == x && (s.leaves o).1.isNone && !(s.leaves o).2) s.outbox with
    | none => s
    | some (_, rest) =>
      let s := s.freeing (fun t => { t with outbox := rest })
      { s with link := { s.link with cntHold := min 255 (s.link.cntHold + 1) } }.ev (pageULK x) 13

def execHoldDrop (port : Fin 4) (s : State) : Host.Outcome State Fault Refusal := .next (s.lineClear.holdDrop port.val)

/-- `CNTCLR` (R491): 0x34 to 0x44 are cleared. -/
def State.ulkCntclr (s : State) (x data : Nat) : State :=
  if !data.testBit 0 then s
  else (List.range 5).foldl (fun t k => t.wr (0x1134 + 256 * x + 4 * k) 0) s

end Sys2Proof.Machine
end

