-- ==== Sys2Proof/Machine/PlantTime.lean ====
section
/-!
DEFINITION. Sys2Proof/Machine/PlantTime.lean: plant time, its servo, steps and step barriers (chapter 23).
-/

namespace Sys2Proof.Machine

def State.modPtm (s : State) (f : Ptm → Ptm) : State := { s with ptm := f s.ptm }

/-- `PTM.STAT.ST` (R523). -/
def State.ptSt (s : State) : Nat := s.get PTM_STAT_ST

/-- The RW words of R533 that act from the boundary after they are written. -/
def ptRwAddrs : List Nat :=
  [0x1520, 0x1524, 0x1548, 0x154C, 0x1550, 0x1554, 0x1558, 0x155C, 0x1568, 0x156C, 0x1570, 0x1578]

/-- A RW field of R533 as it is in force. -/
def State.ptIn (s : State) (f : Fld) : Nat := bitsOf (s.ptm.rw.toList.getD (ptRwAddrs.idxOf f.addr) 0).toNat f.lo f.w

/-- A signed RW field of R533 as it is in force. -/
def State.ptInI (s : State) (f : Fld) : Int := signed f.w (s.ptIn f)

/-- The RW fields written before a boundary come into force (R533). -/
def State.ptLatch (s : State) : State :=
  s.modPtm (fun p => { p with
    rw := #v[s.rd 0x1520, s.rd 0x1524, s.rd 0x1548, s.rd 0x154C, s.rd 0x1550, s.rd 0x1554, s.rd 0x1558, s.rd 0x155C, s.rd 0x1568,
      s.rd 0x156C, s.rd 0x1570, s.rd 0x1578]
    acting := p.scheds })

/-- A saturating counter of the page (R533). -/
def State.ptCount (s : State) (f : Fld) : State := s.count (s.frz pagePTM) f

/-- Plant time enters a state (R524) with its events (R534). -/
def State.ptTo (s : State) (st : Nat) : State :=
  let old := s.ptSt
  if st = old then s
  else
    let s := s.put PTM_STAT_ST st
    let s := if old = 2 then s.ev pagePTM 1 else s
    let s := if st = 2 then s.ev pagePTM 0 else s
    let s := if st = 3 then (s.ptCount PTM_CNT_LOSTCNT).ev pagePTM 2 else s
    let s := if st = 4 then s.ev pagePTM 5 else s
    let s := if st = 5 then s.put PTM_STAT_HOPS 0 else s
    s.modPtm (fun p => { p with
      good := 0, bad := 0
      since := s.time.loc
      i := if st = 0 ∨ st = 5 then 0 else p.i
      f := if st = 0 ∨ st = 5 then 0 else p.f })

/-- The condition for MASTER (R519). -/
def State.ptMaster (s : State) : Bool := s.ptIn PTM_CFG_MASTER == 1 || (s.link.keyst && s.link.pcpos == 0)

/-- The parent port (R519). -/
def State.ptParent (s : State) : Option Nat :=
  let k := s.link
  let up (x : Nat) : Option Nat :=
    if s.lst x = 4 then some x else if s.lst (otherPort x) = 4 then some (otherPort x) else none
  if s.ptSt = 5 then none
  else if !k.shead then up (s.toward false k.hpos)
  else if k.pcpos ≠ 0 then up (s.toward true k.pcpos)
  else if k.ksOk then up (s.toward true (addrShelf k.ksNode + 1))
  else none

/-- `SYNCPER` (R533): 0 acts as 1. -/
def State.syncPer (s : State) : Nat := max 1 (s.ptIn PTM_CFG_SYNCPER)

/-- `SLEWMAX` (R533). -/
def State.slewMax (s : State) : Int := (min 10000 (s.ptIn PTM_LIM_SLEWMAX) : Nat)

/-! ### Exchanges (R520 to R522) -/

/-- `TIMESYNC_REQ_SEND` (R521): a REQ on the parent port. -/
def State.syncReqSend (s : State) : State :=
  if !s.running then s
  else match s.ptParent with
    | none => s
    | some x =>
      let n := (s.ptm.seqn + 1) % 256
      let w0 := 1 + n * 2 ^ 8 + s.ptSt * 2 ^ 16 + s.get PTM_STAT_HOPS * 2 ^ 24
      let p := { blankPacket with
        typ := 7, ttl := 1, dlen := 8, w1 := BitVec.ofNat 32 (s.get (ULK_PARTNER_ADDR x)), src := BitVec.ofNat 20 s.node
        data := BitVec.ofNat 32 w0 :: List.replicate 7 0 }
      (s.enqueue p x none).modPtm (fun t => { t with seqn := n, req := some (x, s.time.loc) })

def execTimesyncReqSend (s : State) : Host.Outcome State Fault Refusal := .next s.lineClear.syncReqSend

/-- The RSP to a REQ (R521): SEQ and T1 are echoed, T2 is the receive stamp, and T3 follows as the RSP leaves. -/
def State.syncAnswer (s : State) (x : Nat) (r : RxPkt) : State :=
  let d := r.pkt.data
  let w0 := (d.getD 0 0).toNat
  let w0 := 2 + bitsOf w0 8 8 * 2 ^ 8 + s.ptSt * 2 ^ 16 + s.get PTM_STAT_HOPS * 2 ^ 24
  let base : List Word :=
    [BitVec.ofNat 32 w0, d.getD 1 0, d.getD 2 0, 0, 0, 0, 0, BitVec.ofNat 32 ((d.getD 7 0).toNat % 256)]
  let p := { blankPacket with
    typ := 7, ttl := 1, dlen := 8, w1 := BitVec.ofNat 32 (s.get (ULK_PARTNER_ADDR x)), src := BitVec.ofNat 20 s.node
    data := putStamp base 3 1 r.stamp.toNat }
  s.enqueue p x none

/-- A stamp of a TIMESYNC in 1/256 ns. -/
def stampOf (ws : List Word) (k b : Nat) : Int :=
  ((((ws.getD k 0).toNat + (ws.getD (k + 1) 0).toNat * 2 ^ 32) * 256 + bitsOf (ws.getD 7 0).toNat (8 * b) 8 : Nat) : Int)

/-- The servo (R522) for θ in 1/512 ns: I and F in fixed point, F limited, and I held while F sits at its limit. -/
def State.servo (s : State) (th : Int) : State :=
  let p := s.ptm
  let m := s.slewMax
  -- 100 × θ / T_S with T_S = SYNCPER × 100,000 ns, in 1/65,536 of 0.01 ppm
  let g (shift : Nat) : Int := divRound (th * 10 ^ 8 * 65536) (512 * (s.syncPer : Int) * 100000 * 2 ^ shift)
  let atLim := decide (m ≤ absI p.f)
  let i := if atLim then p.i else p.i - g (s.ptIn PTM_CFG_KIS)
  let f := clampI (-m) m (divRound (i - g (s.ptIn PTM_CFG_KPS)) 65536)
  s.modPtm (fun p => { p with i := i, f := f })

/-- A valid exchange acts by the state of plant time (R524): θ in 1/512 ns. -/
def State.syncValid (s : State) (th : Int) : State :=
  let unit : Int := 10000 * 512
  let k : Int := (2 * -th + unit) / (2 * unit)
  let stepTo (s : State) : State := (s.ptTo 1).modPtm (fun p => { p with step := if k = 0 then p.step else some (.by_ k) })
  let lim : Int := (max 1 (s.ptIn PTM_LIM_LOCKTH) : Nat) * 512
  match s.ptSt with
  | 0 => (stepTo s).servo (th + k * unit)
  | 1 | 2 | 3 =>
    if k ≠ 0 then
      if 0 < k ∧ s.ptIn PTM_CFG_AUTOSTEP = 1 then (stepTo s).servo (th + k * unit)
      else ((s.ptTo 3).putI PTM_STEPK_K k).ev pagePTM 4
    else if s.ptSt = 3 then (s.ptTo 1).servo th
    else
      let s := (s.servo th).modPtm (fun p => { p with
        good := if absI th ≤ lim then p.good + 1 else 0
        bad := if 4 * lim < absI th then p.bad + 1 else 0 })
      if s.ptSt = 1 ∧ 8 ≤ s.ptm.good then s.ptTo 2
      else if s.ptSt = 2 ∧ 4 ≤ s.ptm.bad then s.ptTo 1
      else s
  | _ => s

/-- A RSP arrives (R521): θ and d are formed and the exchange is judged. -/
def State.syncResponse (s : State) (x : Nat) (r : RxPkt) : State :=
  let d := r.pkt.data
  let w0 := (d.getD 0 0).toNat
  let t1 := stampOf d 1 0
  let t2 := stampOf d 3 1
  let t3 := stampOf d 5 2
  let th := (t1 - t2) + (r.stamp - t3) + s.ptInI (PTM_ASYM_ASYM x) * 16
  let dl := (t2 - t1) + (r.stamp - t3)
  let st := bitsOf w0 16 3
  let valid : Bool := match s.ptm.req with
    | some (p, at_) => p == x && bitsOf w0 8 8 == s.ptm.seqn && decide (s.time.loc ≤ at_ + 1000000)
        && (2 ≤ st && st ≤ 5) && decide (0 ≤ dl ∧ dl ≤ 1200 * 512)
    | none => false
  let s := s.modPtm (fun p => { p with req := none })
  if !valid then (s.ptCount PTM_CNT_BADSYNC).ev pagePTM 6
  else
    let s := (s.put PTM_STAT_HOPS (min 255 (bitsOf w0 24 8 + 1))).putI PTM_OFFSET_THETA (satI 32 (divRound th 16))
    let s := (s.putI PTM_DELAY_D (divRound dl 16)).modPtm (fun p => { p with since := s.time.loc })
    s.syncValid th

/-- `PT_LOST`: no valid exchange for SYNCLOSS intervals (R524). -/
def State.ptLost (s : State) : State :=
  let t := max 1 (s.ptIn PTM_CFG_SYNCLOSS) * s.syncPer * 100000
  if s.running ∧ (s.ptSt = 1 ∨ s.ptSt = 2) ∧ s.ptm.since + t ≤ s.time.loc then s.ptTo 3 else s

def execPtLost (s : State) : Host.Outcome State Fault Refusal := .next s.ptLost

/-! ### Commands (R525, R533) -/

/-- A write of `PTM.CMD`: STEP makes the awaited step, ACQ returns to FREE, SETT sets PTIME in MASTER.  The residual r of an awaited
step is slewed by the exchanges that follow, because the servo acts at an exchange (R522). -/
def State.ptCmd (s : State) (data : Nat) : State :=
  let s := if data.testBit 0 ∧ s.getI PTM_STEPK_K ≠ 0 ∧ 1 ≤ s.ptSt ∧ s.ptSt ≤ 3 then
      (s.ptTo 1).modPtm (fun p => { p with step := some (.by_ (s.getI PTM_STEPK_K)) })
    else s
  let s := if data.testBit 1 ∧ s.ptSt ≠ 4 then s.ptTo 0 else s
  if data.testBit 2 ∧ s.ptSt = 5 then
    s.modPtm (fun p => { p with step := some (.to ((s.ptIn PTM_PTSETL_T + s.ptIn PTM_PTSETH_T * 2 ^ 32) / 10000)) })
  else s

/-- The waiting step acts at a boundary (R525): frames are renumbered, and reports, sweeps and roving see the jump (R328, R353). -/
def State.ptStepNow (s : State) : State :=
  match s.ptm.step with
  | none => s
  | some k =>
    let n : Nat := match k with
      | .by_ k => ((s.frame : Int) + k).toNat
      | .to n => n
    let s := { s with time := { s.time with ptime := s.time.ptime % 10000 + n * 10000 } }
    let s := (s.modPtm (fun p => { p with step := none })).put PTM_STEPK_K 0
    let s := s.leads.foldl (fun t l => t.markWindow l 128) s
    s.tlmJump |> fun s => (s.ptCount PTM_CNT_JUMPS).ev pagePTM 3

/-- The boundary work of plant time (R518, R519, R524, R533): the fields in force, the MASTER condition, the parent shown, and the F in force. -/
def State.ptFrame (s : State) : State :=
  let s := s.ptLatch
  let s := if s.ptSt = 5 then (if s.ptMaster then s else s.ptTo 0)
    else if s.ptSt ≤ 3 ∧ s.ptMaster then (s.ptTo 5).modPtm (fun p => { p with req := none }) else s
  let par := s.ptParent
  ((s.put PTM_STAT_PPORT (par.getD 0)).putB PTM_STAT_PVALID par.isSome).putI PTM_FREQ_F s.ptm.f

/-- A read of `PTIMEL` latches `PTIMEH` for its initiator (R533). -/
def State.ptimeLatch (s : State) (i : Init) : Word × State :=
  (BitVec.ofNat 32 s.time.ptime, s.latch i (· == 0x1534) [(0x1534, BitVec.ofNat 32 (s.time.ptime / 2 ^ 32))])

/-! ### Barriers (R527 to R531) -/

/-- A BARRIER is received (R528, R529). -/
def State.barrierIn (s : State) (ws : List Word) : State :=
  if 16 ≤ s.ptm.bars.length then s.ev pagePTM 9
  else
    let t := (ws.getD 1 0).toNat + (ws.getD 2 0).toNat * 2 ^ 32
    let b : Bar := ⟨(ws.getD 0 0).toNat % 65536, (t + 9999) / 10000, s.time.loc, s.ptSt ≤ 1⟩
    let s := s.modPtm (fun p => { p with bars := p.bars ++ [b] })
    (s.put PTM_BARQ_PEND s.ptm.bars.length).ev pagePTM 7

/-- A release acts at the boundary of frame `n` (R528): due by frame, or accepted without plant time, and at least 1 µs after its acceptance. -/
def barDue (b : Bar) (loc n : Nat) : Bool := decide (b.at_ + 1000 ≤ loc) && (b.noref || decide (b.due ≤ n))

/-- One release acts (R528, R239). -/
def State.barRelease (s : State) (n : Nat) (b : Bar) : State :=
  let s := (s.put PTM_LASTBAR_BGRP b.grp).put PTM_LASTBARF_FRAME n
  let s := if b.due < n then ((s.ptCount PTM_CNT_LATECNT).put PTM_BARQ_LATEF (min 65535 (n - b.due))).ev pagePTM 8 else s
  let s := if b.noref then s.ev pagePTM 10 else s
  s.releaseGroup b.grp

/-- The releases due at the boundary of frame `n`, which lies at local time `loc`, act together (R529). -/
def State.barReleases (s : State) (loc n : Nat) : State :=
  let due := s.ptm.bars.filter (fun b => barDue b loc n)
  if due.isEmpty then s
  else
    let s := s.modPtm (fun p => { p with bars := p.bars.filter (fun b => !barDue b loc n) })
    due.foldl (fun t b => t.barRelease n b) (s.put PTM_BARQ_PEND s.ptm.bars.length)

/-- Pending releases are discarded (R532). -/
def State.barDiscard (s : State) : State := (s.modPtm (fun p => { p with bars := [] })).put PTM_BARQ_PEND 0

/-- `BRGRP.SCOPE` and `SCHCFG.SCOPE`: 3 acts as 1 (R533). -/
def barScope (x : Nat) : Nat := if x = 3 then 1 else x

/-- Sends one BARRIER and takes the device's own copy (R530). -/
def State.barSend (s : State) (grp scope t : Nat) : State :=
  let a := s.link.addr
  let (k, s) := s.draw
  let ws : List Word := [BitVec.ofNat 32 (grp + (Config.barrierId k).toNat * 65536), BitVec.ofNat 32 t, BitVec.ofNat 32 (t / 2 ^ 32), 0]
  let w1 := addrZone a * 2 ^ 12 + addrShelf a * 2 ^ 16 + barScope scope * 2 ^ 24
  (s.send { blankPacket with typ := 8, mc := true, dlen := 4, w1 := BitVec.ofNat 32 w1, data := ws }).barrierIn ws

/-- `LEAD` (R533): 0 acts as 1. -/
def State.barLead (s : State) : Nat := max 1 (s.ptIn PTM_LEAD_LEAD)

/-- A write of `BRCMD` (R530). -/
def State.brCmd (s : State) (data : Nat) : State :=
  if !data.testBit 0 then s
  else
    let t := s.ptIn PTM_BRTL_T + s.ptIn PTM_BRTH_T * 2 ^ 32
    let t := if t ≠ 0 then t else (s.time.ptime + s.barLead * 10000 + 9999) / 10000 * 10000
    s.barSend (s.ptIn PTM_BRGRP_BGRP) (s.ptIn PTM_BRGRP_SCOPE) t

def State.sched (s : State) (j : Nat) : Sched := s.ptm.scheds.toList.getD j Sched.reset
def State.setSched (s : State) (j : Nat) (x : Sched) : State :=
  s.modPtm (fun p => { p with scheds := p.scheds.setIfInBounds j x })

/-- The occurrence of a schedule whose send boundary is frame `n` (R531): its number and its T. -/
def schedDue (x : Sched) (lead n : Nat) : Option (Nat × Nat) :=
  if !bit x.cfg.toNat 18 then none
  else
    let per := x.per.toNat % 2 ^ 24
    let first := x.t0 / 10000
    let fr := n + lead
    if fr < first then none
    else if per = 0 then (if fr = first then some (0, x.t0) else none)
    else
      let i := (fr - first) / per
      if (fr - first) % per ≠ 0 ∨ (x.count ≠ 0 ∧ x.count ≤ i) then none else some (i, x.t0 + i * per * 10000)

/-- One schedule, as it is in force, at the present boundary (R531). -/
def State.schedSend (s : State) (j : Nat) : State :=
  let x := s.ptm.acting.toList.getD j Sched.reset
  match schedDue x s.barLead s.frame with
  | none => s
  | some (i, t) =>
    let last := x.per.toNat % 2 ^ 24 == 0 || i + 1 == x.count
    let s := s.setSched j { s.sched j with done := min 65535 ((s.sched j).done + 1) }
    let s := s.barSend (x.cfg.toNat % 65536) (bitsOf x.cfg.toNat 16 2) t
    if last then s.ev pagePTM 11 else s

/-- `SCHEDULE_SEND`: the schedules whose send boundary is the present one, while the keystone role is in force (R531). -/
def execScheduleSend (s : State) : Host.Outcome State Fault Refusal :=
  .next (if s.running && s.link.keyst then (List.range 8).foldl State.schedSend s.lineClear else s)

/-- The schedule that `SCHSEL` selects, at 0x80 to 0x90 (R533). -/
def State.schedShown (s : State) (off : Nat) : Option Word :=
  let x := s.sched (s.get PTM_SCHSEL_SCH)
  match off with
  | 0x80 => some x.cfg
  | 0x84 => some (BitVec.ofNat 32 x.t0)
  | 0x88 => some (BitVec.ofNat 32 (x.t0 / 2 ^ 32))
  | 0x8C => some x.per
  | 0x90 => some (BitVec.ofNat 32 (x.count + x.done * 65536))
  | _ => none

/-- A write of the selected schedule (R533). -/
def State.schedWrite (s : State) (off : Nat) (v : Word) : State :=
  let j := s.get PTM_SCHSEL_SCH
  let x := s.sched j
  match off with
  | 0x80 => s.setSched j { x with cfg := v }
  | 0x84 => s.setSched j { x with t0 := x.t0 / 2 ^ 32 * 2 ^ 32 + v.toNat }
  | 0x88 => s.setSched j { x with t0 := x.t0 % 2 ^ 32 + v.toNat * 2 ^ 32 }
  | 0x8C => s.setSched j { x with per := v }
  | 0x90 => s.setSched j { x with count := v.toNat % 65536 }
  | _ => s

/-- DEEP_SLEEP (R532): pending releases are discarded, and plant time is FREE at wake (R524). -/
def State.ptSleep (s : State) : State := s.barDiscard.modPtm (fun p => { p with step := none, req := none })

end Sys2Proof.Machine
end

