-- ==== Sys2Proof/Machine/LinkTable.lean ====
section
/-!
DEFINITION. Sys2Proof/Machine/LinkTable.lean: the link table, roles, claims, summaries and the ring walk (chapter 22).
-/

namespace Sys2Proof.Machine

/-- The link table in core SRAM (R496). -/
def tabBase : Nat := 0x13FC00

/-- A word of the link table. -/
def State.tab (s : State) (off : Nat) : Nat := (s.memWord (tabBase + off)).toNat

/-- The transaction layer or the supervisor writes a word of the table. -/
def State.setTab (s : State) (off v : Nat) : State := s.setMemWord (tabBase + off) (BitVec.ofNat 32 v)

def State.modLink (s : State) (f : LinkCfg → LinkCfg) : State := { s with link := f s.link }

/-! ### Roles (R469, R510) -/

/-- `PCTL.EN` of U2 and U3 follows the shelf-head role (R11, R510). -/
def State.headPorts (s : State) (on : Bool) : State :=
  [2, 3].foldl (fun t x =>
    let t := t.putB (⟨0x1108 + 256 * x, 0, 1⟩ : Fld) on
    if on then t.portEnable x else t.portDisable x) s

/-- The roles in force become `shead` and `keyst` (R510). -/
def State.setRoles (s : State) (shead keyst : Bool) : State :=
  let was := s.link.shead
  let s := s.modLink (fun k => { k with shead := shead, keyst := shead && keyst })
  if shead == was then s else s.headPorts shead

/-- A claim arrives or is sent by this device (R510): the holder is recorded, and a lower holder ends the role of this one. -/
def State.claimIn (s : State) (ks : Bool) (node : Nat) : State :=
  let a := s.link.addr
  let other := node != s.node
  if ks then
    let s := s.modLink (fun k => { k with ksNode := node, ksOk := true, ksAt := s.time.loc })
    if s.link.keyst && other && decide (addrShelf node < addrShelf a) then
      (s.modLink (fun k => { k with keyst := false })).ev (pageULK 1) 15
    else s
  else
    let s := s.modLink (fun k => { k with headNode := node, headOk := true, headAt := s.time.loc })
    if s.link.shead && other && decide (addrDev node < addrDev a) then (s.setRoles false false).ev (pageULK 1) 15 else s

/-! ### The table in force (R495, R496) -/

/-- The configuration words and the group map come into force. -/
def State.tableTake (s : State) : State :=
  let naddr := s.tab 0
  let addr := naddr % 2 ^ 18
  let asg := naddr.testBit 31
  let tim := s.tab 0x18
  let cplto := max 1 (bitsOf tim 0 8)
  let old := s.link
  let s := s.modLink (fun k => { k with
    addr := addr, assigned := asg
    asgAt := if asg && !k.assigned then s.time.loc else k.asgAt
    oldAddr := if k.assigned && addr != k.addr then some k.addr else k.oldAddr
    oldEnd := if k.assigned && addr != k.addr then s.time.loc + cplto * 1000000 else k.oldEnd
    smem := bitsOf (s.tab 8) 0 7, hpos := bitsOf (s.tab 8) 8 7
    zmem := bitsOf (s.tab 0xC) 0 9, pcpos := bitsOf (s.tab 0xC) 16 9
    evNode := s.tab 0x10 % 2 ^ 20, evEn := (s.tab 0x10).testBit 31
    tlmMode := if s.tab 0x14 % 4 = 3 then 1 else s.tab 0x14 % 4
    cplto := cplto, holdto := max 1 (bitsOf tim 8 8)
    groups := (List.range 128).map (fun g => s.tab (0x200 + 4 * g)) })
  let s := s.setRoles ((s.tab 4).testBit 0) ((s.tab 4).testBit 1)
  if asg || (!old.assigned && s.pevt (pageULK 0) / 0x8000 = 1) then s else s.ev (pageULK 0) 15

/-- A write of APPLY by an initiator (R496, R511). -/
def State.tableApply (s : State) (i : Init) : State :=
  (s.modLink (fun k => { k with
    applyCnt := (k.applyCnt + 1) % 256
    foreignApply := k.foreignApply || i != Sys2Proof.Init.core })).tableTake

/-- t4 of R84: the layer writes the reset values of the table and applies them (R14, R496). -/
def State.tableReset (s : State) : State :=
  let naddr := match s.shadow.addr with
    | some a => a + 2 ^ 31
    | none => 0
  let s := (s.setTab 0 naddr).setTab 0x10 (2 ^ 31 + 2 ^ 18 + naddr % 2 ^ 18 / 64 * 64)
  ((s.setTab 0x14 1).setTab 0x18 (10 + 256)).tableTake

/-- Words of STATUS at a frame boundary (R496). -/
def State.linkStatus (s : State) : State :=
  let k := s.link
  let b (x : Bool) (n : Nat) : Nat := if x then 2 ^ n else 0
  let tags := (List.range 4).foldl (fun x p => x + (s.port p).tags.length * 2 ^ (8 * p)) 0
  let ws : List Nat :=
    [ k.addr + b k.assigned 18 + b k.shead 19 + b k.keyst 20 + k.applyCnt * 2 ^ 24, tags,
      k.cntTo + k.cntLate * 2 ^ 8 + k.cntTtl * 2 ^ 16 + k.cntHold * 2 ^ 24, 0,
      k.headNode + b k.headOk 31, k.ksNode + b k.ksOk 31, 0, 0 ]
  s.setMemWords (tabBase + 0x20) (ws.map (BitVec.ofNat 32))

/-- `CLAIM_EXPIRE`: three seconds without a claim (R510). -/
def State.claimExpire (s : State) : State :=
  let gone (at_ : Nat) : Bool := decide (at_ + 3000000000 ≤ s.time.loc)
  if !s.running then s
  else s.modLink (fun k => { k with headOk := k.headOk && !gone k.headAt, ksOk := k.ksOk && !gone k.ksAt })

def execClaimExpire (s : State) : Host.Outcome State Fault Refusal := .next s.claimExpire

/-- A claim as a BCAST of one word (R510). -/
def State.claimSend (s : State) (ks : Bool) : State :=
  let a := s.link.addr
  let w1 := addrZone a * 2 ^ 12 + addrShelf a * 2 ^ 16 + (if ks then 2 ^ 24 else 0)
  (s.send { blankPacket with
    typ := 5, mc := true, dlen := 1, w1 := BitVec.ofNat 32 w1
    addr := BitVec.ofNat 24 (tabBase + (if ks then 0x34 else 0x30)), data := [BitVec.ofNat 32 (s.node + 2 ^ 31)] }).claimIn ks s.node

/-- `ROLE_CLAIM`: the claims of a shelf head and of a keystone in force (R510). -/
def State.roleClaim (s : State) : State :=
  if !(s.running && s.link.shead) then s
  else
    let s := s.claimSend false
    if s.link.keyst then s.claimSend true else s

def execRoleClaim (s : State) : Host.Outcome State Fault Refusal := .next s.roleClaim

/-- `DEFAULT_ROLE_ASSIGN` (R511): once, 3 s after the address became assigned. -/
def State.roleAssign (s : State) : State :=
  let k := s.link
  if !(s.running && s.coreRuns && k.assigned) || k.roleDone || k.foreignApply || decide (s.time.loc < k.asgAt + 3000000000) then s
  else
    let s := s.modLink (fun k => { k with roleDone := true })
    let head := addrDev k.addr == 0 && !k.headOk
    let ks := head && addrShelf k.addr == 0 && !k.ksOk
    if head then (s.setTab 4 (s.tab 4 ||| (if ks then 3 else 1))).tableApply .core else s

def execDefaultRoleAssign (s : State) : Host.Outcome State Fault Refusal := .next s.roleAssign

/-! ### Summaries (R507) -/

/-- `SYS.EVSUM0` to `EVSUM2` (R131). -/
def State.evsumWord (s : State) (k : Nat) : Nat :=
  evsum (fun p => s.present p && s.pevtRead p != 0) (if k = 0 then 0 else 0x20 + 0x20 * k)

/-- The summary record of this device. -/
def State.summaryWords (s : State) : List Word :=
  let h (k : Nat) : Nat := (s.tlm.hdr.getD k 0).toNat
  let nsafe := (s.enabledLanes.filter (fun l => (s.lane l).st == .safe)).length
  let lvl := (List.range 8).foldl (fun x b => max x (bitsOf (s.rd THM_LEVEL_LVL.addr).toNat (4 * b) 4)) 0
  [ s.link.addr + (s.rd 0x70).toNat % 256 * 2 ^ 24, s.frame,
    s.mode.code + s.pstat pageRCP % 128 * 2 ^ 2 + nsafe % 128 * 2 ^ 9 + s.pstat pageEFU % 256 * 2 ^ 16 + lvl * 2 ^ 24,
    h 6, h 7, h 12 % 65536 + h 13 % 65536 * 65536, h 0 / 256 % 65536, s.evsumWord 0 ].map (BitVec.ofNat 32)

/-- A record is collected under its device field, the latest of a device standing (R507). -/
def sumAdd (d : Nat) (ws : List Word) : List (Nat × List Word) → List (Nat × List Word)
  | [] => [(d, ws)]
  | (e, v) :: m => if d = e then (d, ws) :: m else if d < e then (d, ws) :: (e, v) :: m else (e, v) :: sumAdd d ws m

/-- Splits a SUMMARY into its records. -/
def sumSplit (ws : List Word) : List (List Word) := (List.range (ws.length / 8)).map (fun i => (ws.drop (8 * i)).take 8)

/-- Collects the records of a SUMMARY (R507). -/
def State.sumCollect (s : State) (ws : List Word) : State :=
  s.modLink (fun k => { k with sums := (sumSplit ws).foldl (fun m r => sumAdd (addrDev (r.getD 0 0).toNat) r m) k.sums })

/-- A SUMMARY to a node. -/
def State.sumSend (s : State) (node : Nat) (ws : List Word) : State :=
  s.send { blankPacket with typ := 6, dlen := BitVec.ofNat 7 ws.length, w1 := BitVec.ofNat 32 node, data := ws }

/-- `SUMMARY_SEND`: at a multiple of 1,000 frames, every assigned device to its shelf head (R507). -/
def State.summarySend (s : State) : State :=
  if !(s.running && s.link.assigned) || s.frame % 1000 != 0 then s
  else
    let ws := s.summaryWords
    if s.link.shead then s.sumCollect ws
    else s.sumSend (s.link.addr / 64 * 64 + (s.link.hpos - 1) % 64) ws

def execSummarySend (s : State) : Host.Outcome State Fault Refusal := .next s.lineClear.summarySend

/-- Packs records 8 to a SUMMARY. -/
def sumPack : Nat → List (List Word) → List (List Word)
  | 0, _ => []
  | n + 1, rs => if rs.isEmpty then [] else (rs.take 8).flatten :: sumPack n (rs.drop 8)

/-- A SUMMARY for the keystone of the zone: forwarded to ZCTRL where this device is the keystone (R507). -/
def State.sumUp (s : State) (ws : List Word) : State :=
  if s.link.keyst then s.sumSend (2 ^ 19 + s.link.addr / 2 ^ 14 * 2 ^ 14) ws
  else if s.link.ksOk then s.sumSend s.link.ksNode ws
  else s

/-- `SUMMARY_FORWARD`: 500 frames past a multiple of 1,000, the shelf head's collection (R507). -/
def State.summaryForward (s : State) : State :=
  if !(s.running && s.link.shead) || s.frame % 1000 != 500 then s
  else
    let rs := s.link.sums.map (·.2)
    let s := s.modLink (fun k => { k with sums := [] })
    (sumPack 8 rs).foldl State.sumUp s

def execSummaryForward (s : State) : Host.Outcome State Fault Refusal := .next s.lineClear.summaryForward

/-! ### Requests and the ring walk (R501, R512) -/

/-- A free tag of a port (R501). -/
def State.freeTag (s : State) (x : Nat) : Option Nat :=
  (List.range 128).find? (fun t => (s.port x).tags.all (fun u => u.tag != t))

/-- Issues a non-posted request on the port where it leaves now (R501): the port and the tag, or none while no tag is free. -/
def State.issue (s : State) (p : Packet) (port : Nat) (walk : Bool) : State × Option (Nat × Nat) :=
  let x := (s.leaves ⟨p, port, none⟩).1.getD port
  match s.freeTag x with
  | none => (s, none)
  | some t =>
    let p := { p with tag := BitVec.ofNat 7 t, tport := BitVec.ofNat 2 x, src := BitVec.ofNat 20 s.node }
    ((s.modPort x (fun q => { q with tags := q.tags ++ [⟨t, walk⟩] })).enqueue p port none, some (x, t))

/-- The walk ends. -/
def State.walkEnd (s : State) (closed : Bool) : State :=
  s.modLink (fun k => { k with walk := k.walk.map (fun w => { w with ended := some closed }) })

/-- The next RD of the walk, one hop further (R512). -/
def State.walkNext (s : State) : State :=
  match s.link.walk with
  | none => s
  | some w =>
    let h := w.hops + 1
    if (if w.zone then 259 else 66) ≤ h then s.walkEnd false
    else
      let p := { blankPacket with
        typ := 1, hopAddr := true, ttl := BitVec.ofNat 8 h, w1 := BitVec.ofNat 32 s.node, addr := 0x20 }
      let s := s.modLink (fun k => { k with walk := some { w with hops := h } })
      (s.issue p (if w.zone then 3 else 1) true).1

/-- A walk starts. -/
def State.walkStart (s : State) (zone : Bool) : State :=
  (s.modLink (fun k => { k with walk := some ⟨zone, 0, [], none⟩ })).walkNext

/-- `RING_WALK_START`: at an UP of a ring port, by the resident supervisor (R512). -/
def execRingWalkStart (zone : Bool) (s : State) : Host.Outcome State Fault Refusal :=
  .next (if s.running && s.coreRuns && s.link.walk.isNone && (!zone || s.link.shead) then s.lineClear.walkStart zone else s)

/-- A responder `h` hops forward fits R494. -/
def walkFits (zone : Bool) (own m h node : Nat) : Bool :=
  let pos := (own + h) % m
  match bitsOf node 18 2 with
  | 0 => (if zone then addrShelf node else addrDev node) + 1 == pos
  | 3 => true
  | _ => pos == 0

/-- A completion of the walk's RD arrives (R512). -/
def State.walkReply (s : State) (src stat : Nat) : State :=
  match s.link.walk with
  | none => s
  | some w =>
    if stat = 2 then s.walkEnd false
    else
      let got := w.got ++ [src]
      let s := s.modLink (fun k => { k with walk := some { w with got := got } })
      if src ≠ s.node then s.walkNext
      else
        let m := got.length
        s.walkEnd ((List.range (m - 1)).all (fun i => walkFits w.zone (s.ringPos w.zone) m (i + 1) (got.getD i 0)))

/-- Writes a field of the table that reads 0; whether it wrote. -/
def State.tabFill (s : State) (off lo w v : Nat) : State × Bool :=
  if bitsOf (s.tab off) lo w = 0 then (s.setTab off (putBits (s.tab off) lo w v), true) else (s, false)

/-- `RING_WALK_DONE` (R512, R513). -/
def State.walkDone (s : State) : State :=
  match s.link.walk with
  | none => s
  | some w => match w.ended with
    | none => s
    | some closed =>
      let s := s.modLink (fun k => { k with walk := none })
      if !closed then s
      else
        let m := w.got.length
        let (s, a) := if w.zone then s.tabFill 0xC 0 9 m else s.tabFill 8 0 7 m
        let pc := (List.range m).find? (fun i => bitsOf (w.got.getD i 0) 18 2 == 3)
        let (s, b) := match w.zone, pc with
          | true, some i => s.tabFill 0xC 16 9 ((s.ringPos true + i + 1) % m)
          | _, _ => (s, false)
        let (s, c) := if s.link.headOk then s.tabFill 8 8 7 (addrDev s.link.headNode + 1) else (s, false)
        let s := if a || b || c then s.tableApply .core else s
        s.setWrapen (if w.zone then 2 else 0) true

def execRingWalkDone (s : State) : Host.Outcome State Fault Refusal := .next (if s.running && s.coreRuns then s.walkDone else s)

end Sys2Proof.Machine
end

