-- ==== Sys2Proof/Machine/Supply.lean ====
section
/-!
DEFINITION. Sys2Proof/Machine/Supply.lean: rail supervision, the internal and external sequences and the start of the last
gasp (chapter 03).
-/

namespace Sys2Proof.Machine

/-! ### Register views -/

/-- Sequencer codes of R61; the powerless state has no code and reads INT_UP. -/
def SeqState.code : SeqState → Nat
  | .powerless => 0 | .intUp => 0 | .intDown => 1 | .intLatched => 2 | .off => 3 | .up => 4 | .on => 5 | .down => 6
  | .minoff => 7 | .faildown => 8 | .latched => 9 | .lastgasp => 10

/-- `PSQ.STATE` as read (R69). -/
def State.psqStateWord (s : State) : Nat :=
  let step := match s.psq.st with
    | .up | .down | .faildown => s.psq.step
    | _ => 0
  s.psq.st.code + step * 16 + (if s.psq.pendOn then 256 else 0) + s.get PSQ_STATE_ENXLVL * 2 ^ 16

/-- `PSQ.HKSTAT` as read (R69): a buck converter ramps while the internal sequence is at its rail (R49, R57; assumption 63). -/
def State.hkstatWord (s : State) : Nat :=
  let up := decide (s.psq.st = .intUp)
  (s.rd 0x354).toNat + (if up ∧ s.psq.step = 4 then 4 else 0) + (if up ∧ s.psq.step = 0 then 8 else 0)

/-- The regulators at their current limit, bits in the order HK0, HK1, VDDIO, VDDA, VDDL, and the event of one that enters it
(R69, R70). -/
def State.hkLimits (s : State) (m : Nat) : State :=
  let old := s.get PSQ_HKSTAT_HK0_ILIM + s.get PSQ_HKSTAT_HK1_ILIM * 2 + s.get PSQ_HKSTAT_LDO_ILIM * 4
  let s := ((s.put PSQ_HKSTAT_HK0_ILIM m).put PSQ_HKSTAT_HK1_ILIM (m / 2)).put PSQ_HKSTAT_LDO_ILIM (m / 4)
  if (List.range 5).any (fun i => m.testBit i && !old.testBit i) then s.ev pagePSQ 6 else s

/-- Sets the sequencer state. -/
def State.seqTo (s : State) (st : SeqState) : State := { s with psq := { s.psq with st := st } }

/-- Lane state mask of lanes not in SAFE (R417, POWERFAIL). -/
def State.activeLaneMask (s : State) : Nat :=
  s.enabledLanes.foldl (fun x l => if (s.lane l).st = .safe ∨ (s.lane l).st = .shed then x else x + 2 ^ l) 0

/-! ### External sequence (R58 to R65) -/

/-- The ENX outputs that `PSQ.ORDER` names in slots 0 to N − 1 (R69). -/
def State.orderList (s : State) : List Nat :=
  (List.range (min (s.get PSQ_ORDER_N) 8)).map (fun i => bitsOf (s.get PSQ_ORDER_SLOT) (3 * i) 3)

/-- An order that names no ENX output twice (R59). -/
def orderValid (o : List Nat) : Bool := (List.range 8).all (fun k => o.count k ≤ 1)

/-- Drives one ENX output. -/
def State.enx (s : State) (k : Nat) (level : Bool) : State :=
  s.put PSQ_STATE_ENXLVL (putBits (s.get PSQ_STATE_ENXLVL) k 1 (if level then 1 else 0))

/-- Raises the ENX output of step `j` of the sampled order. -/
def State.raiseStep (s : State) (j : Nat) : State :=
  let k := s.psq.order.getD j 0
  { s.enx k true with psq := { s.psq with st := .up, step := j, raised := k :: s.psq.raised } }

/-- Lowers the last raised ENX output, if any, and makes its step the present one. -/
def State.lowerStep (s : State) : State :=
  match s.psq.raised with
  | [] => s
  | k :: ks => { s.enx k false with psq := { s.psq with raised := ks, step := ks.length } }

/-- A sequence starts: `RTIM0` to `RTIM7` and `RAILCFG8` to `RAILCFG15` are sampled (R58). -/
def State.sampleSeq (s : State) : State :=
  { s with psq := { s.psq with
    rtim := (List.range 8).map (fun k => s.rd (0x330 + 4 * k))
    railcfg := (List.range 8).map (fun k => s.rd (0x440 + 4 * k)) } }

/-- Starts the power-up with the configuration sampled now (R58, R62). -/
def State.startUp (s : State) : State :=
  let o := s.orderList
  let s := s.sampleSeq
  let s := { s with psq := { s.psq with order := o, raised := [], pendOn := false } }
  if o.isEmpty then (s.seqTo .on).ev pagePSQ 0 else s.raiseStep 0

/-- The raised ENX outputs in the order in which a power-down under the order `o` lowers them: reverse slot order, then those
that `o` does not name, last raised first (R58, R60; assumption 63). -/
def lowerOrder (o raised : List Nat) : List Nat :=
  o.reverse.eraseDups.filter (fun k => raised.contains k) ++ raised.filter (fun k => !o.contains k)

/-- A power-down from ON, or after the last gasp, is a sequence of its own and samples its configuration; one from UP goes on with
what the power-up sampled (R58; assumption 63). -/
def State.sampleDown (s : State) : State :=
  if s.psq.st = .on ∨ s.psq.st = .lastgasp then
    let o := s.orderList
    let s := s.sampleSeq
    { s with psq := { s.psq with order := o, raised := lowerOrder o s.psq.raised } }
  else s

/-- Enters DOWN from the highest raised step, lowering its ENX at once (R62, R65). -/
def State.startDown (s : State) : State :=
  let s := s.sampleDown
  if s.psq.raised.isEmpty then s.seqTo .minoff else s.lowerStep.seqTo .down

/-- Enters FAILDOWN from the highest raised step, or LATCHED where nothing is raised (R62, R65). -/
def State.startFailDown (s : State) : State :=
  let s := s.sampleDown
  if s.psq.raised.isEmpty then (s.seqTo .latched).ev pagePSQ 3 else s.lowerStep.seqTo .faildown

/-- Records a failure in `PSQ.LASTFAIL` (R63, R69): cause 1 time-out, 2 UV, 3 OV. -/
def State.lastFail (s : State) (slot cause : Nat) (int : Bool) : State :=
  s.wr 0x350 (BitVec.ofNat 32 (slot + cause * 16 + (if int then 64 else 0) + 128))

/-- An ON request (R59, R62, R65). -/
def State.psqOn (s : State) : State :=
  match s.psq.st with
  | .off => if orderValid s.orderList then s.startUp else s.ev pagePSQ 5
  | .down | .minoff => { s with psq := { s.psq with pendOn := true } }
  | .faildown | .latched => s.ev pagePSQ 4
  | _ => s

/-- An OFF request (R62, R65). -/
def State.psqOff (s : State) : State :=
  match s.psq.st with
  | .up | .on => { s with psq := { s.psq with pendOn := false } }.startDown
  | .down | .minoff => { s with psq := { s.psq with pendOn := false } }
  | _ => s

/-- The effect of a write to `PSQ.CMD` (R69). -/
def State.psqCmd (s : State) (data : Nat) : State :=
  match data % 4 with
  | 1 => s.psqOn
  | 2 => s.psqOff
  | _ => s

/-! ### Rail supervision (R51 to R56) -/

/-- A rail's record. -/
def State.rail (s : State) (k : Nat) : Rail := s.rails.toList.getD k Rail.reset

/-- Replaces a rail's record. -/
def State.setRail (s : State) (k : Nat) (r : Rail) : State := { s with rails := s.rails.setIfInBounds k r }

/-- The RAILCFG word in use for a slot: the sampled one for a MON slot while an external sequence runs (R58). -/
def State.railCfg (s : State) (k : Nat) : Nat :=
  let live := (s.rd (0x420 + 4 * k)).toNat
  match s.psq.st with
  | .up | .down | .faildown => if 8 ≤ k then (s.psq.railcfg.getD (k - 8) (BitVec.ofNat 32 live)).toNat else live
  | _ => live

/-- Classifies a sample against thresholds and hysteresis (R53). -/
def classify (prev : RailClass) (code uv ov hys : Nat) : RailClass :=
  if code < uv then .low
  else if ov < code then .high
  else match prev with
    | .low => if code < uv + hys then .low else .inWindow
    | .high => if ov < code + hys then .high else .inWindow
    | .inWindow => .inWindow

/-- Sets or clears bit `k` of a 16-bit field. -/
def State.railBit (s : State) (f : Fld) (k : Nat) (b : Bool) : State := s.put f (putBits (s.get f) k 1 (if b then 1 else 0))

/-- A chatter excursion (R55). -/
def State.chatter (s : State) (k : Nat) : State :=
  let s := s.count (s.frz pageSUP) (SUP_RAILCNT_CHCNT k)
  let th := s.get (SUP_RAILTIM_CHTH k)
  if 0 < th ∧ th ≤ s.get (SUP_RAILCNT_CHCNT k) ∧ !(s.rail k).chatted then
    ((s.setRail k { s.rail k with chatted := true }).railBit SUP_CHATF_CHATF k true).ev pageSUP 2
  else s

/-- The rail of the present up step is monitored, and whether it is GOOD (R58). -/
def State.stepRail (s : State) : Bool × Bool :=
  let slot := 8 + s.psq.order.getD s.psq.step 0
  (bit (s.railCfg slot) 31, bit (s.get SUP_GOOD_GOOD) slot)

/-- An external up step completes: its rail is GOOD or not monitored (R58, R62). -/
def State.extUpStep (s : State) : State :=
  if s.psq.st = .up ∧ (!s.stepRail.1 || s.stepRail.2) then
    if s.psq.step + 1 < s.psq.order.length then s.raiseStep (s.psq.step + 1) else (s.seqTo .on).ev pagePSQ 0
  else s

/-- The MON of the present up step was not GOOD within TO_UP (R62). -/
def State.extUpTimeout (s : State) : State :=
  if s.psq.st = .up ∧ s.stepRail.1 ∧ !s.stepRail.2 then
    let slot := 8 + s.psq.order.getD s.psq.step 0
    let s := s.count (s.frz pageSUP) (SUP_RAILCNT_TOCNT slot)
    ((s.lastFail slot 1 false).ev pagePSQ 2).startFailDown
  else s

/-- An internal rail fault above INT_UP, or in it: down with every lane in SAFE (R62, R64). -/
def State.internalFault (s : State) (slot cause : Nat) : State :=
  let s := ((s.lastFail slot cause true).ev pageSUP 4).forceAllSafe 0x0C 7 true
  s.lowerStep.seqTo .intDown

/-- The action of a fault on a rail that ACT governs (R62, R64, R65); none in the power-down that follows a last gasp.  A DOWNLATCH
fault during DOWN also records LASTFAIL, sets SEQ_FAIL and keeps PEND_ON: the model's choice (assumption 63). -/
def State.railAction (s : State) (slot cause act : Nat) : State :=
  if act = 0 || s.psq.gaspDone then s
  else
    let latch := act = 2
    let failed := (s.lastFail slot cause false).ev pagePSQ 2
    match s.psq.st with
    | .up | .on => if latch then failed.startFailDown else s.startDown
    | .down => if latch then failed.seqTo .faildown else s
    | .minoff =>
      if latch then { failed with psq := { failed.psq with st := .latched, pendOn := false } }.ev pagePSQ 3 else s
    | _ => s

/-- Declares UV (cause 2) or OV (cause 3) on a rail that was GOOD (R54, R64). -/
def State.declareRail (s : State) (k cause : Nat) : State :=
  let act := bitsOf (s.railCfg k) 28 2
  let s := s.count (s.frz pageSUP) (if cause = 2 then SUP_RAILCNT_UVCNT k else SUP_RAILCNT_OVCNT k)
  let s := s.railBit (if cause = 2 then SUP_FLAGS_UVF else SUP_FLAGS_OVF) k true
  let s := (s.railBit SUP_GOOD_GOOD k false).ev pageSUP (cause - 2)
  let s := if act ≠ 0 ∨ k = 1 then s.flt 2 else s
  if 2 ≤ k ∧ k ≤ 6 then
    match s.psq.st with
    | .powerless | .intDown | .intLatched | .lastgasp => s
    | _ => s.internalFault k cause
  else if k = 7 then s
  else
    let s := if k = 1 then (s.forceAllSafe 0x08 7 true).ev pageSUP 3 else s
    s.railAction k cause act

/-- The divider of a slot, the denominator of its ratio (R52). -/
def railDiv (k : Nat) : Nat := [16, 8, 1, 4, 2, 4, 2, 4].getD k 1

/-- The converter code of a rail voltage in µV (R52). -/
def railCode (k uv : Nat) : Nat := min 4095 (divRound (uv * 4096) (railDiv k * 1250000)).toNat

/-- One classified sample of slot `k` (R53 to R55).  INWIN, the qualification run and the class of a rail hold while MONEN is 0:
the model's choice (assumption 63). -/
def State.railSample (s : State) (k code : Nat) : State :=
  let r := s.rail k
  let cfg := s.railCfg k
  if bitsOf cfg 31 1 = 0 then s.setRail k { r with code := code }
  else
    let cls := classify r.cls code (bitsOf cfg 0 12) (bitsOf cfg 12 12) (s.get SUP_HYS_HYS)
    let filt := max 1 (bitsOf cfg 24 4)
    let stab := max 1 (s.get (SUP_RAILTIM_STAB k))
    let good := bit (s.get SUP_GOOD_GOOD) k
    let inw := cls == .inWindow
    let s := s.railBit SUP_GOOD_INWIN k inw
    if inw then
      let run := min (r.inRun + 1) stab
      let s' := s.setRail k { r with code := code, cls := cls, inRun := run, lowRun := 0, highRun := 0, outRun := 0 }
      if good then
        if 0 < r.outRun ∧ r.outRun < filt then s'.chatter k else s'
      else if stab ≤ run then s'.railBit SUP_GOOD_GOOD k true else s'
    else
      let low := if cls = .low then r.lowRun + 1 else 0
      let high := if cls = .high then r.highRun + 1 else 0
      let s' := s.setRail k { r with
        code := code, cls := cls, inRun := 0, lowRun := low, highRun := high, outRun := r.outRun + 1 }
      if good then
        if filt ≤ low then s'.declareRail k 2 else if filt ≤ high then s'.declareRail k 3 else s'
      else if 0 < r.inRun then s'.chatter k else s'

/-- The supervisor converts the next slot in order (R51): its voltage in µV, and the regulators at their current limit. -/
def State.supSample (s : State) (uv limits : Nat) : State :=
  let k := s.psq.scan % 16
  let s := { s with psq := { s.psq with scan := (k + 1) % 16 } }
  let s := if k = 15 then s.countMod SUP_SAMPLE_SCANCNT 1 else s
  (s.hkLimits limits).railSample k (railCode k uv)

/-- Clears the counters of the rails named, and re-arms their chatter flags (R55, R56); also while FRZ = 1 (assumption 63). -/
def State.supClear (s : State) (mask : Nat) : State :=
  ((List.range 16).filter (fun k => mask.testBit k)).foldl
    (fun t k => (t.wr (0x4A0 + 4 * k) 0).setRail k { t.rail k with chatted := false }) s

/-! ### Internal sequence (R57, R62) -/

/-- The supervisor slot of internal step `j`: VDD33, VDDIO, VDDA, VDDL, VDD_CORE (R52, R57). -/
def internalSlot (j : Nat) : Nat := [3, 4, 5, 6, 2].getD j 2

/-- The rail of the present internal step is GOOD (R57). -/
def State.intGood (s : State) : Bool := bit (s.get SUP_GOOD_GOOD) (internalSlot s.psq.step)

/-- An internal step completes, its rail GOOD: the next rail, or the end of the sequence (R62). -/
def State.intStep (s : State) : State :=
  if s.psq.st = .intUp ∧ s.intGood then
    if s.psq.step < 4 then { s with psq := { s.psq with step := s.psq.step + 1 } }
    else { s with psq := { s.psq with st := .off, step := 0 } }
  else s

/-- An internal rail was not GOOD in time (R62). -/
def State.intTimeout (s : State) : State :=
  if s.psq.st = .intUp ∧ !s.intGood then
    let slot := internalSlot s.psq.step
    let s := s.count (s.frz pageSUP) (SUP_RAILCNT_TOCNT slot)
    ((s.lastFail slot 1 true).ev pageSUP 4).seqTo .intDown
  else s

/-! ### Meanings -/

def execSupSample (uv : Nat) (limits : BitVec 5) (s : State) : Host.Outcome State Fault Refusal :=
  .next (if s.psq.st = .powerless then s else s.supSample uv limits.toNat)

def execIntStepDone (s : State) : Host.Outcome State Fault Refusal := .next s.intStep

def execIntStepTimeout (s : State) : Host.Outcome State Fault Refusal := .next s.intTimeout

def execExtUpStepDone (s : State) : Host.Outcome State Fault Refusal := .next s.extUpStep

def execExtUpTimeout (s : State) : Host.Outcome State Fault Refusal := .next s.extUpTimeout

/-- MINOFF ends: OFF, or the held ON request starts the next power-up (R62).  A held request whose ORDER is invalid is refused here,
and the sequencer ends in OFF after a power-down: the model's choice (R59, R70; assumption 63). -/
def State.minoffDone (s : State) : State :=
  if s.psq.st = .minoff then
    if s.psq.pendOn then
      if orderValid s.orderList then s.startUp
      else { s with psq := { s.psq with st := .off, pendOn := false } }.raise pagePSQ 34
    else (s.seqTo .off).ev pagePSQ 1
  else s

def execMinoffDone (s : State) : Host.Outcome State Fault Refusal := .next s.minoffDone

end Sys2Proof.Machine
end

