-- ==== Sys2Proof/Machine/ClockReset.lean ====
section
/-!
DEFINITION. Sys2Proof/Machine/ClockReset.lean: power down, the last gasp, clocks, resets, their release, and device modes
(chapters 03 and 04).
-/

namespace Sys2Proof.Machine

def State.modPsq (s : State) (f : Psq → Psq) : State := { s with psq := f s.psq }
def State.modRst (s : State) (f : Rst → Rst) : State := { s with rst := f s.rst }
def State.modClk (s : State) (f : Clk → Clk) : State := { s with clk := f s.clk }

/-! ### DEVICE reset (R80 to R89) -/

/-- Registers that a DEVICE reset preserves (R85, R89, R380, R428): `RST.CAUSE` and `LAST`, `PSQ.LASTFAIL`, `THM.TSDSTAT`, the watchdog
expiry capture, the counters of the recorder, and the plinth registers. -/
def heldByReset (a : Nat) : Bool :=
  plinthHeld a || a == 0x22C || a == 0x230 || a == 0x350 || a == 0x568 || (0x748 ≤ a && a ≤ 0x758)
    || (0x834 ≤ a && a ≤ 0x844) || a == 0x8B8

/-- A DEVICE reset begins, with its cause (R85): everything is at its reset value but for what R85 preserves.  The device stays
in reset until its release. -/
def State.deviceReset (s : State) (code : Nat) : State :=
  let s := s.otpCut
  let r := State.reset
  let t : State := { r with
    regs := sparseKeep heldByReset s.regs
    mem := sparseKeep (fun a => 0x1C0000 ≤ a && a < 0x1C4000) s.mem
    store := s.store, otp := s.otp, lf := s.lf, pl := s.pl, recLatches := s.recLatches
    pins := { r.pins with safeIn := s.pins.safeIn, bankUv := s.pins.bankUv, vqps := s.pins.vqps }
    evr := { r.evr with lostNew := s.evr.lostNew, lostFirst := s.evr.lostFirst, opNs := s.evr.opNs }
    psq := { r.psq with vinOk := s.psq.vinOk, scan := s.psq.scan }
    rst := { r.rst with pinLow := s.rst.pinLow }
    pending := s.pending, free := s.free }
  let t := t.putB PSQ_HKSTAT_PFLIVE (s.flag PSQ_HKSTAT_PFLIVE)
  let t := (t.put REC_RSTAT_FILL (s.get REC_RSTAT_FILL)).put REC_RSTAT_LOST (s.get REC_RSTAT_LOST)
  let t := t.put RST_CAUSE_CAUSE (t.get RST_CAUSE_CAUSE ||| 2 ^ code)
  (t.put RST_LAST_CODE code).put RST_LAST_DEVCNT (min 255 (t.get RST_LAST_DEVCNT + 1))

/-- `POWER_ON` (R62, R81, R89): the internal sequence starts, in POR. -/
def State.powerOn (s : State) (vbakOk : Bool) : State :=
  if s.psq.st ≠ .powerless then s
  else
    let r := State.reset
    let t : State := { r with
      regs := sparseKeep plinthHeld s.regs, pl := s.pl, store := s.store, otp := s.otp
      pins := { r.pins with safeIn := s.pins.safeIn, bankUv := s.pins.bankUv, vqps := s.pins.vqps }
      psq := { r.psq with st := .intUp }
      rst := { r.rst with pinLow := s.rst.pinLow }
      pending := s.pending, free := s.free }
    let t := if vbakOk then t else t.plinthReset
    t.put RST_CAUSE_CAUSE 1

def execPowerOn (vbakOk : Bool) (s : State) : Host.Outcome State Fault Refusal := .next (s.powerOn vbakOk)

/-- `VIN_UVLO` (R62): all outputs are released. -/
def State.vinUvlo (s : State) : State :=
  let s := s.otpCut
  let r := State.reset
  { r with
    regs := sparseKeep plinthHeld s.regs, pl := s.pl, store := s.store, otp := s.otp
    pins := { r.pins with safeIn := s.pins.safeIn, bankUv := s.pins.bankUv, vqps := s.pins.vqps }
    psq := { r.psq with st := .powerless, vinOk := false }
    rst := { r.rst with pinLow := s.rst.pinLow }
    pending := s.pending, free := s.free }

def execVinUvlo (s : State) : Host.Outcome State Fault Refusal := .next s.vinUvlo

/-- An internal failure ends with every internal rail down: each output is held in its reset state (R41, R62). -/
def State.intDownDone (s : State) : State :=
  if s.psq.st = .intDown then
    let s := { s with psq := { s.psq with st := .intLatched, raised := [] }, rst := { s.rst with inReset := true } }
    let s := ((s.put PSQ_STATE_ENXLVL 0).put (EFU_FSTAT_ST 0) 0).put (EFU_FSTAT_ST 1) 0
    ((List.range 4).foldl State.portIdle s).modClk (fun c => { c with pllOn := false })
  else s

def execIntDownDone (s : State) : Host.Outcome State Fault Refusal := .next s.intDownDone

/-! ### Power-down and the last gasp (R62, R66) -/

/-- `EXT_DOWN_STEP_DONE` (R62). -/
def State.extDown (s : State) : State :=
  match s.psq.st with
  | .down => if s.psq.raised.isEmpty then (if s.psq.gaspDone then s.deviceReset 3 else s.seqTo .minoff) else s.lowerStep
  | .faildown => if s.psq.raised.isEmpty then (s.seqTo .latched).ev pagePSQ 3 else s.lowerStep
  | .intDown => s.lowerStep
  | _ => s

def execExtDownStepDone (s : State) : Host.Outcome State Fault Refusal := .next s.extDown

/-- The RTIM word of an ENX output in use (R58). -/
def State.rtimOf (s : State) (k : Nat) : Nat :=
  let live := s.rd (0x330 + 4 * k)
  match s.psq.st with
  | .up | .down | .faildown => (s.psq.rtim.getD k live).toNat
  | _ => live.toNat

/-- `POWER_FAIL` (R66, R424): t1 to t3. -/
def State.powerFail (s : State) : State :=
  match s.psq.st with
  | .powerless => s
  | .lastgasp => (s.modPsq (fun q => { q with vinOk := false })).putB PSQ_HKSTAT_PFLIVE true
  | _ =>
    let m := s.activeLaneMask
    let data := [(s.rd 0x70).toNat, m % 2 ^ 32, m / 2 ^ 32, (s.rd EFU_ISUM_I.addr).toNat, s.psqStateWord]
    let drop := s.psq.raised.filter (fun k => (s.rtimOf k).testBit 24)
    let snap := s.newLatch 0xFF 3 0 data
    let s := s.forceAllSafe 0x0C 7 true
    let s := drop.foldl (fun t k => t.enx k false) s
    let s := s.modPsq (fun q => { q with raised := q.raised.filter (fun k => !drop.contains k) })
    let s := (List.range 4).foldl State.portIdle s
    let s := ((s.setJob .none).putB REC_RSTAT_FLUSHING false).wbAbandon.otpCut
    let s := drainLatches s.recLatches.length s
    let s := { s with evr := { s.evr with gasp := some snap, acc := 0 } }
    let s := (s.modPsq (fun q => { q with st := .lastgasp, gaspDone := false, vinOk := false })).putB PSQ_HKSTAT_PFLIVE true
    s.modClk (fun c => { c with pllOn := false })

def execPowerFail (s : State) : Host.Outcome State Fault Refusal := .next s.powerFail

/-- VIN is back after the path (R62): the card rails go down, then a DEVICE reset follows.  It leaves the sequencer in OFF also where
the path began in INT_UP, INT_DOWN or INT_LATCHED: the model's choice (assumption 63). -/
def State.gaspDown (s : State) : State := if s.psq.raised.isEmpty then s.deviceReset 3 else s.startDown

/-- `LAST_GASP_COMPLETE` (R66, R83): `vinBack` says whether VIN is at or above VIN_PF(r) then. -/
def State.gaspEnd (s : State) (vinBack : Bool) (first second : StoreReply) : State :=
  if s.psq.st ≠ .lastgasp ∨ s.psq.gaspDone then s
  else
    let s := (s.gaspRecord first second).modPsq (fun q => { q with gaspDone := true, vinOk := vinBack })
    let s := if vinBack then s.putB PSQ_HKSTAT_PFLIVE false else s
    if s.rst.afterGasp then s.deviceReset 1 else if s.psq.vinOk then s.gaspDown else s

def execLastGaspComplete (vinBack : Bool) (stored : GaspIn) (s : State) : Host.Outcome State Fault Refusal :=
  .next (s.gaspEnd vinBack stored.first stored.second)

/-- `POWER_FAIL_RELEASE` (R62, R65). -/
def State.vinReturn (s : State) : State :=
  if s.psq.st ≠ .lastgasp then s
  else
    let s := (s.modPsq (fun q => { q with vinOk := true })).putB PSQ_HKSTAT_PFLIVE false
    if s.psq.gaspDone then s.gaspDown else s

def execPowerFailRelease (s : State) : Host.Outcome State Fault Refusal := .next s.vinReturn

/-- A DEVICE reset by RESET_N during or after an internal failure: outputs at once as in reset, the rails go on down, and INT_FAIL
stays to be seen after the recovery (R41, R65, R72). -/
def State.intReset (s : State) : State :=
  let t := (s.deviceReset 1).modPsq (fun q => { q with st := s.psq.st, step := s.psq.step })
  t.wr 0x410 (s.rd 0x410 &&& 0x10)

/-- `RESET_N_ASSERT` (R83).  In INT_UP, where the POR is not over, no cause is recorded: the model's choice (assumption 64). -/
def State.resetPin (s : State) : State :=
  let s := s.modRst (fun r => { r with pinLow := true })
  match s.psq.st with
  | .lastgasp => if s.psq.gaspDone then s.deviceReset 1 else s.modRst (fun r => { r with afterGasp := true })
  | .powerless | .intUp => s
  | .intDown | .intLatched => s.intReset
  | _ => s.deviceReset 1

def execResetNAssert (s : State) : Host.Outcome State Fault Refusal := .next s.resetPin

/-! ### Release from reset (R40, R79, R84) -/

/-- The straps are sampled (R40, R131). -/
def State.sampleStraps (s : State) (x : ReleaseIn) : State :=
  let test := lifeCode s.shadow.life ≤ 1
  let s := ((s.put SYS_STRAP_BOOTSEL x.bootsel.toNat).putB SYS_STRAP_HCRC x.hcrc).putB SYS_STRAP_TESTEN x.testen
  let s := (s.putB SYS_STRAP_TESTACT (x.testen && test)).putB HIF_CFG_CRCEN x.hcrc
  if x.bootsel = 3 ∨ (x.testen ∧ !test) then s.ev pageSYS 5 else s

/-- The zero fill of 592 KiB at 64 bytes a cycle (R84). -/
def fillCycles : Nat := 9472

/-- t0 to t5 of R84, or only t0 to t2 while the PLL does not lock (R79).  PTIME counts from t3 and so stands at the zero fill and
what else passed by t5 (R19); a boundary that falls at t5 is due. -/
def State.releaseSeq (s : State) (x : ReleaseIn) : State :=
  let s := s.shadowLoad
  if !x.locks then s.modClk (fun c => { c with waitPll := true })
  else
    let n := fillCycles + x.after
    let s := { s with
      clk := { Clk.reset with pllOn := true, due := decide (n % 2000 = 0) }
      time := ⟨5 * n, n % 2000, 5 * n⟩
      rst := { Rst.reset with inReset := false }
      mem := sparseKeep (fun a => 0x1C0000 ≤ a && a < 0x1C4000) s.mem
      core := CoreSt.reset }
    let s := ((s.putB CLK_STAT_PLL_LOCK true).putB CLK_STAT_DL_LOCK true).putB CLK_STAT_REF_OK true
    let s := ((s.tableReset).sampleStraps x).ev pageRST 1
    let s := (List.range 4).foldl (fun t p => if t.flag (⟨0x1108 + 256 * p, 0, 1⟩ : Fld) then t.portEnable p else t) s
    s.plinthRelease.wdgStart

/-- `DEVICE_RESET_RELEASE` (R62, R83, R84): RESET_N is high and the cause has ended.  From INT_LATCHED, where RESET_N was low, the
internal sequence starts anew. -/
def State.release (s : State) (x : ReleaseIn) : State :=
  let low := s.rst.pinLow
  match s.psq.st with
  | .powerless | .intUp | .intDown | .lastgasp => s.modRst (fun r => { r with pinLow := false })
  | .intLatched =>
    let s := s.modRst (fun r => { r with pinLow := false })
    if low ∧ s.psq.vinOk then s.modPsq (fun q => { q with st := .intUp, step := 0 }) else s
  | _ => if s.rst.inReset then (s.modRst (fun r => { r with pinLow := false })).releaseSeq x else s

def execDeviceResetRelease (x : ReleaseIn) (s : State) : Host.Outcome State Fault Refusal := .next (s.release x)

/-- `PLL_LOCK_RETRY`: 10 ms after a release in which the PLL did not lock (R79). -/
def execPllLockRetry (x : ReleaseIn) (s : State) : Host.Outcome State Fault Refusal :=
  .next (if s.rst.inReset && s.clk.waitPll then s.release x else s)

/-! ### Clock monitor (R75 to R79) -/

/-- REFCLK is lost (R75, R76, R95, R524). -/
def State.refLost (s : State) : State :=
  let s := (s.ev pageCLK 0).flt 5
  let s := ((s.putB CLK_STAT_REF_OK false).putB CLK_STAT_HOLDOVER true).putB CLK_STAT_RELOCKING false
  let s := (s.putB CLK_STAT_PLL_LOCK true).putB CLK_STAT_DL_LOCK true
  if s.ptSt = 0 then s else s.ptTo 4

/-- `CLK_MONITOR_WINDOW`.  REF_LOST is the edge at the second window out of band, so a RELOCK that is issued with REFCLK out of band
already runs until its RELOCK_DONE: the model's choice (R95; assumption 64). -/
def State.clkWindow (s : State) (rc sc : Nat) : State :=
  if !s.running then s
  else
    let s := (s.put CLK_MONCNT_REFCNT rc).put CLK_MONCNT_SYSCNT sc
    let ref := 59 ≤ rc ∧ rc ≤ 69
    let sys := 482 ≤ sc ∧ sc ≤ 542
    let c := s.clk
    let bad := if ref then 0 else min 3 (c.refBad + 1)
    let good := if ref then min 3 (c.refGood + 1) else 0
    let sysBad := if sys then 0 else min 3 (c.sysBad + 1)
    let s := s.modClk (fun c => { c with refBad := bad, refGood := good, sysBad := sysBad })
    let s := if s.flag CLK_STAT_HOLDOVER then
        let w := c.holdW + 1
        (s.modClk (fun c => { c with holdW := w })).put CLK_HOLDTIME_MS (min 65535 (w * 2560 / 1000000))
      else s
    let s := if bad = 2 then s.refLost else if !ref then s.putB CLK_STAT_REF_OK false else s
    let s := if good = 2 then
        let s := if s.flag CLK_STAT_HOLDOVER then s.ev pageCLK 1 else s
        s.putB CLK_STAT_REF_OK true
      else s
    if sysBad = 2 then (s.forceAllSafe 0x09 7 true).deviceReset 4 else s

def execClkMonitorWindow (refCount : BitVec 8) (sysCount : BitVec 12) (s : State) : Host.Outcome State Fault Refusal :=
  .next (s.clkWindow refCount.toNat sysCount.toNat)

/-- `HOLD_EXP`: holdover has lasted HOLDMAX (R77). -/
def State.holdExp (s : State) : State :=
  if !(s.running && s.flag CLK_STAT_HOLDOVER) then s
  else
    let s := s.put CLK_HOLDTIME_MS (max (s.get CLK_HOLDTIME_MS) (max 1 (s.get CLK_CFG_HOLDMAX)))
    ((s.ev pageCLK 2).flt 5).lossOfControlAll

def execHoldExp (s : State) : Host.Outcome State Fault Refusal := .next s.holdExp

/-- A write of `CLK.RELOCK` (R78). -/
def State.relockCmd (s : State) (data : Nat) : State :=
  if !data.testBit 0 then s
  else if s.mode ≠ .standby then s.ev pageCLK 3
  else ((s.putB CLK_STAT_RELOCKING true).putB CLK_STAT_PLL_LOCK false).putB CLK_STAT_DL_LOCK false

/-- The PLL and the delay line are locked to REFCLK. -/
def State.clkLocked (s : State) : State :=
  let s := ((s.putB CLK_STAT_RELOCKING false).putB CLK_STAT_HOLDOVER false).put CLK_HOLDTIME_MS 0
  ((s.putB CLK_STAT_PLL_LOCK true).putB CLK_STAT_DL_LOCK true).modClk (fun c => { c with holdW := 0, refBad := 0, refGood := 0, sysBad := 0 })

/-- `RELOCK_DONE` (R78, R524). -/
def State.relockDone (s : State) : State :=
  if s.running && s.flag CLK_STAT_RELOCKING then (s.clkLocked.ev pageCLK 4).ptTo 0 else s

def execClkRelockDone (s : State) : Host.Outcome State Fault Refusal := .next s.relockDone

/-! ### `RST.CMD` (R82, R86 to R88) -/

/-- PORT reset of the host port (R87, R95, R122). -/
def State.hostPortReset (s : State) : State :=
  let s := { s with hif := { s.hif with prevErr := .none, resetting := true } }
  (s.putB HIF_CFG_CRCEN (s.flag SYS_STRAP_HCRC)).resetSeen 8

def execHostPortResetEnd (s : State) : Host.Outcome State Fault Refusal :=
  .next { s with hif := { s.hif with resetting := false } }

/-- CHAN reset: the selected channels go to SAFE at once, and their pages are reset at the next boundary (R86). -/
def State.chanReset (s : State) : State :=
  let m := s.laneBits 0x224 0x228
  let sel := s.leads.filter (fun l => (s.members l).any (fun n => m.testBit n))
  let mask := (sel.flatMap s.members).foldl (fun x n => x ||| 2 ^ n) 0
  let s := sel.foldl (fun t l => t.forceSafe l 0x0C 7 false (fun _ => false)) s
  (s.modRst (fun r => { r with chanPend := r.chanPend ||| mask })).resetSeen 7

/-- One lane of a CHAN reset at its boundary (R85, R86, R17).  A spare goes on serving the lane's inputs, and its faulty converters stay
so (R214, R219): MSTAT shows both still (R224). -/
def State.laneReset (s : State) (n : Nat) : State :=
  let a := (LANE_MSTAT_RNG n).addr
  let keep := s.rd a &&& 0xC6
  let s := s.resetPage (pageLANE n) (fun _ => false)
  let s := s.wr a (s.rd a ||| keep)
  let s := s.modLane n (fun l => { l with
    st := .safe, modu := Modu.reset, health := Health.reset, chan := Chan.reset
    meas := { l.meas with qAcc := 0, eAcc := 0 }
    eng := Eng.reset, chg := Chg.reset, est := Est.reset, swp := Sweep.reset })
  s.reportRestart n

/-- The CHAN resets that wait act at a boundary (R86). -/
def State.chanResetFrame (s : State) : State :=
  let m := s.rst.chanPend
  if m = 0 then s
  else (laneNos.filter (fun n => m.testBit n)).foldl State.laneReset (s.modRst (fun r => { r with chanPend := 0 }))

/-- A write of `RST.CMD` (R82, R98). -/
def State.rstCmd (s : State) (data : Nat) : State :=
  if bitsOf data 24 8 ≠ 0xA5 then s.ev pageRST 0
  else match data % 8 with
    | 1 =>
      let sel := bitsOf data 4 3
      if sel = 0 then s.hostPortReset
      else if sel ≤ 4 then
        let s := s.portReset (sel - 1) 8
        if s.lst (sel - 1) = 0 then s else s.toDetect (sel - 1) false
      else s
    | 2 => s.chanReset
    | 3 => s.coreReset 6
    | 4 => s.deviceReset 2
    | _ => s

/-! ### Device modes (R91 to R94) -/

/-- DEEP_SLEEP may be entered (R93). -/
def State.maySleep (s : State) : Bool :=
  s.allSafe && (List.range 2).all (fun f => s.get (EFU_FSTAT_ST f) == 0 || s.get (EFU_FSTAT_ST f) == 3)

/-- DEEP_SLEEP is entered (R92, R219, R353, R490, R532); CLK_SYS stops when the boundary's other effects are done. -/
def State.enterSleep (s : State) : State :=
  let s := (s.tlmSleep.ptSleep.abandonVisits).put SYS_MODE_CUR 2
  let s := (List.range 4).foldl State.portIdle s
  let s := (s.putB CLK_STAT_PLL_LOCK false).putB CLK_STAT_DL_LOCK false
  s.modRst (fun r => { r with wake := 0 })

/-- CLK_SYS stops in DEEP_SLEEP (R92). -/
def State.sleepClock (s : State) : State := s.modClk (fun c => { c with pllOn := false, open_ := false })

/-- A mode request acts at a boundary (R91, R93). -/
def State.modeFrame (s : State) : State :=
  let t := s.modRst (fun r => { r with modeReq := none })
  match s.rst.modeReq with
  | none => s
  | some .run => t.put SYS_MODE_CUR 0
  | some .standby => if s.mode = .run then (t.forceAllSafe 0x0C 6 false).put SYS_MODE_CUR 1 else t
  | some .deepSleep => if s.maySleep then t.enterSleep else t.ev pageSYS 0

/-- A wake source is active (R94): the alarm or the periodic wake as CFG routes it (R461), a stamp in an input's FIFO (R462), signal
detect of a port, and a fall of CS_N or an EFU trip since DEEP_SLEEP was entered (R358). -/
def State.wakeActive (s : State) (src : Nat) : Bool :=
  match src with
  | 0 => (s.flag RTC_CFG_ALMWK && s.flag RTC_PLSTAT_ALMF) || (s.flag RTC_CFG_PERWK && s.flag RTC_PLSTAT_WKF)
  | 1 | 2 | 3 | 4 => !(s.stamps (src - 1)).isEmpty
  | 6 | 7 | 8 | 9 => s.flag (ULK_STATE_SIGDET (src - 6))
  | _ => s.rst.wake.testBit src

/-- `WAKE`: an enabled source is active (R93, R94). -/
def State.wakeBy (s : State) (src : Nat) (refOk : Bool) : State :=
  if !s.asleep || !(s.get SYS_WAKEEN_EN).testBit src || !s.wakeActive src then s
  else if !refOk then ((s.ev pageCLK 0).flt 5).ev pageSYS 1
  else
    let s := ((s.put SYS_WAKESRC_SRC (s.get SYS_WAKESRC_SRC ||| 2 ^ src)).put SYS_MODE_CUR 1).clkLocked
    let s := ((s.modClk (fun c => { c with pllOn := true })).ptTo 0).wdgPeriod true
    let s := (List.range 4).foldl (fun t x => if t.lst x = 1 then t.toDetect x true else t) s
    s.ev pageSYS 6

def execWake (src : Fin 11) (refOk : Bool) (s : State) : Host.Outcome State Fault Refusal := .next (s.wakeBy src.val refOk)

end Sys2Proof.Machine
end

