-- ==== Sys2Proof/Machine/BusAlloc.lean ====
section
/-!
DEFINITION. Sys2Proof/Machine/BusAlloc.lean: card bus energy exchange (chapter 11).
-/

namespace Sys2Proof.Machine

/-- A feed is present: its state is ON (R281). -/
def State.feedPresent (s : State) : Bool := s.get (EFU_FSTAT_ST 0) == 3 || s.get (EFU_FSTAT_ST 1) == 3

/-- The feed-forward codes of the enabled banks that completed in the 2,000 CLK_SYS cycles up to now (R280); with none, the latest code
of each. -/
def State.busCodes (s : State) : List Nat :=
  let banks := (List.range 8).filter (fun b => s.enabled (8 * b))
  let of (b : Nat) : List Nat :=
    ((s.pins.vbs.toList.getD b []).filter (fun e => decide (s.time.loc < e.1 + 10000 ∧ e.1 ≤ s.time.loc))).map Prod.snd
  let xs := banks.flatMap of
  if xs.isEmpty then banks.map s.vbsCode else xs

/-- vb in mV (R280): the mean of those samples, of at least 4,000 mV. -/
def State.busVb (s : State) : Nat :=
  let xs := s.busCodes
  max 4000 (divRound (25 * xs.foldl (fun x c => x + c) 0 : Nat) xs.length).toNat

/-- The droop factor in 1/256 (R288). -/
def State.droopPhi (s : State) (vb : Nat) : Nat :=
  let lo := s.get BUS_DROOP_VDRPLO
  let hi := max (s.get BUS_DROOP_VDRPHI) (lo + 100)
  if vb ≤ lo then 256 else if hi ≤ vb then 0 else 256 * (hi - vb) / (hi - lo)

/-- The rotation π of R283. -/
def busPi (i : Nat) : Nat := (29 * i % 64) ^^^ 42

/-- The rotation order for start `st` (R283). -/
def rotation (st : Nat) : List Nat := (List.range 64).map (fun j => busPi ((st + j) % 64))

/-- Amounts by lane; a lane not listed has 0. -/
def amount (m : List (Nat × Nat)) (k : Nat) : Nat := sparseGet (fun _ => 0) m k
def setAmount (m : List (Nat × Nat)) (k v : Nat) : List (Nat × Nat) := sparseSet (fun _ => 0) m k v

/-- Both passes of R283: requests `q`, leads whose aging count has come to the limit, rotation order, budget; the grants. -/
def distribute (order : List Nat) (q : List (Nat × Nat)) (old : Nat → Bool) (budget : Nat) : List (Nat × Nat) :=
  let n := q.length
  let f (k : Nat) : Nat := min (amount q k) (if n = 0 then 0 else budget / n)
  let first := order.foldl (fun (x : List (Nat × Nat) × Nat) k =>
    if 0 < amount q k ∧ old k then (setAmount x.1 k (f k), x.2 - f k) else x) ([], budget)
  (order.foldl (fun (x : List (Nat × Nat) × Nat) k =>
    let a := min (amount q k - amount x.1 k) x.2
    (setAmount x.1 k (amount x.1 k + a), x.2 - a)) first).1

/-- The correction COR of this frame and whether a limit held it back (R281). -/
def State.corUpdate (s : State) : Int × Bool :=
  let lim : Int := (s.get BUS_IMPLIM_IMPLIM : Int) * 10 / 8
  if s.get BUS_IMPLIM_IMPLIM = 0 then (0, false)
  else if s.flag BUS_CFG_CORREN ∧ s.feedPresent then
    let m := s.getI EFU_ISUM_I - s.bus.net - 10 * (s.get BUS_IMPLIM_BASEI : Int)
    let c := s.bus.cor + divTrunc (m - s.bus.cor) 16
    (clampI (-lim) lim c, decide (c < -lim ∨ lim < c))
  else (s.bus.cor, false)

/-- A demand that takes part in the allocation (R279). -/
def State.busDemand (s : State) (l : Nat) : Int :=
  let c := (s.lane l).chan
  if c.st = .safe ∨ c.st = .closing ∨ s.bankPaused l then 0 else s.getI (LANE_DEMAND_DEMAND l)

/-- The lead's voltage in mV (R280). -/
def State.busV (s : State) (l : Nat) : Nat := (divRound (s.vCell l) 1000).toNat

/-- The request of a requester in mA of bus current (R280). -/
def State.busRequest (s : State) (vb l : Nat) (d : Int) : Nat :=
  divCeil (s.busV l * d.toNat * 256) (max 1 (s.get BUS_CFG_ETAC) * vb)

/-- The offer of an exporter in mA of bus current (R280). -/
def State.busOffer (s : State) (vb phi l : Nat) (d : Int) : Nat :=
  s.busV l * (-d).toNat * s.get BUS_CFG_ETAD * phi / (65536 * vb)

/-- A bus limit with 250 mV hysteresis (R290): in force, and entered in this frame. -/
def busLimit (was reach back : Bool) : Bool × Bool :=
  let now := reach || (was && !back)
  (now, now && !was)

/-- Gives one channel its grant (R284, R285): `g` of its request `q`, contested or not, served by the first pass or not. -/
def State.giveGrant (s : State) (l : Nat) (d : Int) (q g fair phi : Nat) (contested zero : Bool) : State :=
  let i : Int :=
    if zero then 0
    else if d < 0 then (if q = 0 then divTrunc (d * phi) 256 else divTrunc (d * phi * g) (256 * q))
    else if contested ∧ 0 < q then divTrunc (d * g) q else d
  let ok := decide ((if contested then fair else q) ≤ g)
  let s := s.modLane l (fun x => { x with
    chan := { x.chan with grant := i * 2560000, age := if d = 0 then x.chan.age else if ok then 0 else min (x.chan.age + 1) 63 } })
  s.putB (LANE_CHSTAT_GRANTLIM l) (decide (absI i < absI d))

/-- The allocation of cycles 800 to 999 (R282 to R290). -/
def State.allocate (s : State) : State :=
  let vb := s.busVb
  let phi := s.droopPhi vb
  let frozen := s.frz pageBUS
  let v : Int := vb
  let old := s.pstat pageBUS
  let (ov, ovIn) := busLimit (bit old 2) (decide ((s.get BUS_VBLIM_BUSOV : Int) ≤ v)) (decide (v < s.get BUS_VBLIM_BUSOV - 250))
  let (uv, uvIn) := busLimit (bit old 3) (decide (v ≤ s.get BUS_VBLIM_BUSUV)) (decide ((s.get BUS_VBLIM_BUSUV : Int) + 250 < v))
  let feed := s.feedPresent
  let (cor, sat) := s.corUpdate
  let limp : Nat := if feed then (10 * ((s.get BUS_IMPLIM_IMPLIM : Int) - s.get BUS_IMPLIM_BASEI) - cor).toNat else 0
  let expOn := s.flag BUS_CFG_EXPEN && feed
  let lexp : Nat := if expOn then 10 * s.get BUS_EXPLIM_EXPLIM else 0
  let ds := s.leads.map (fun l => (l, s.busDemand l))
  let rq := (ds.filter (fun p => decide (0 < p.2) && !uv)).map (fun p => (p.1, s.busRequest vb p.1 p.2))
  let of := (ds.filter (fun p => decide (p.2 < 0) && !ov)).map (fun p => (p.1, s.busOffer vb phi p.1 p.2))
  let rq := rq.filter (fun p => 0 < p.2)
  let of := of.filter (fun p => 0 < p.2)
  let r : Nat := rq.foldl (fun x p => x + p.2) 0
  let e : Nat := of.foldl (fun x p => x + p.2) 0
  let st := s.frame % 64
  let agemax := max 1 (s.get BUS_CFG_AGEMAX)
  let aged (k : Nat) : Bool := decide (agemax ≤ (s.lane k).chan.age)
  let impC := decide (e + limp < r)
  let x := min e (r + lexp)
  let expC := !impC && decide (x < e)
  let budget := if impC then e + limp else x
  let q := if impC then rq else of
  let n := if impC || expC then q.length else 0
  let got := if impC || expC then distribute (rotation st) q aged budget else []
  let gR := if impC then got else rq
  let gO := if expC then got else of
  let served := if impC || expC then (q.filter (fun p => aged p.1)).map (fun p => p.1) else []
  let s := ds.foldl (fun t p =>
    let l := p.1
    let d := p.2
    if d = 0 then (t.setChan l { (t.lane l).chan with grant := 0 }).putB (LANE_CHSTAT_GRANTLIM l) false
    else
      let con := if 0 < d then impC else expC
      let qq := amount (if 0 < d then rq else of) l
      let gg := amount (if 0 < d then gR else gO) l
      t.giveGrant l d qq gg (min qq (if n = 0 then 0 else budget / n)) phi (con && decide (0 < qq))
        (if 0 < d then uv else ov)) s
  let sumR : Nat := gR.foldl (fun y p => y + p.2) 0
  let sumO : Nat := gO.foldl (fun y p => y + p.2) 0
  let net : Int := (sumR : Int) - sumO
  let phiOld := s.get BUS_VBUS_PHI
  let s := { s with bus := { s.bus with
    cor := cor, net := net
    last := Vector.ofFn (fun k : Fin 64 => toMilliAmp (s.lane k.val).chan.grant)
    aged := served.foldl (fun y k => y + 2 ^ k) 0
    agesrv := if frozen then s.bus.agesrv
      else served.foldl (fun y k => y.setIfInBounds k (min (y.toList.getD k 0 + 1) 65535)) s.bus.agesrv } }
  let s := (s.put BUS_VBUS_VB vb).put BUS_VBUS_PHI phi
  let s := (s.put BUS_REQ_REQ (r / 10)).put BUS_REQ_OFFER (e / 10)
  let s := (s.put BUS_GRANTSUM_GREQ (sumR / 10)).put BUS_GRANTSUM_GOFF (sumO / 10)
  let s := (s.putI BUS_NET_NET (divTrunc net 10)).putI BUS_NET_COR (divTrunc cor 10)
  let s := ((s.put BUS_ROT_START st).put BUS_ROT_NCONT n).putB BUS_ROT_DIR expC
  let s := s.wr 0xB0C (BitVec.ofNat 32 ((if impC then 1 else 0) + (if expC then 2 else 0) + (if ov then 4 else 0)
    + (if uv then 8 else 0)))
  let s := if impC || expC then s.count frozen BUS_CNT_CONTFRM else s
  let s := if ovIn then s.count frozen BUS_CNT_OVCNT else s
  let s := if uvIn then s.count frozen BUS_CNT_UVCNT else s
  s.raise pageBUS ((if impC then 1 else 0) + (if expC then 2 else 0) + (if served.isEmpty then 0 else 4) + (if ovIn then 8 else 0)
    + (if uvIn then 16 else 0) + (if !feed && decide (0 < r) then 32 else 0) + (if sat then 64 else 0)
    + (if phi < 256 ∧ phiOld = 256 then 128 else 0))

end Sys2Proof.Machine
end

