-- ==== Sys2Proof/Machine/Operands.lean ====
section
/-!
DEFINITION. Sys2Proof/Machine/Operands.lean: what an address operand names (R27, R28) and the ordering unit it belongs to
(R111), and the register pages (R100, R101, R110, R117).
-/

namespace Sys2Proof.Machine

/-! ### The device-internal address map (R27) -/

/-- The ranges of R27; an address that no range holds is unassigned. -/
inductive Region where
  | pages | recipe | ocv | sram | tlmRing | evBuf | bootRom | unassigned
  deriving DecidableEq, Repr

/-- The range of an address. -/
def regionOf (a : Nat) : Region :=
  if a < 0x10000 then .pages
  else if 0x40000 ≤ a ∧ a < 0x80000 then .recipe
  else if 0x80000 ≤ a ∧ a < 0x84000 then .ocv
  else if 0x100000 ≤ a ∧ a < 0x140000 then .sram
  else if 0x180000 ≤ a ∧ a < 0x190000 then .tlmRing
  else if 0x1C0000 ≤ a ∧ a < 0x1C4000 then .evBuf
  else if 0xFF0000 ≤ a ∧ a < 0x1000000 then .bootRom
  else .unassigned

/-- An address as an access uses it: 24 bits, the two lowest ignored (R27). -/
def wordAddr (a : Nat) : Nat := a % 0x1000000 / 4 * 4

/-- The ordering unit of an address (R111): a register page by its index, a whole range otherwise. -/
def unitOf (a : Nat) : Nat :=
  match regionOf a with
  | .pages => a / 256
  | .recipe => 0x100
  | .ocv => 0x101
  | .sram => 0x102
  | .tlmRing => 0x103
  | .evBuf => 0x104
  | .bootRom => 0x105
  | .unassigned => 0x106

/-- A page index that holds a block, present or removed by the ordering code (R2, R3, R28, R117). -/
def hasBlock (p : Nat) : Bool := p ≤ 0x18 || (0x40 ≤ p && p < 0x80)

/-- A read of the address is answered (R27, R28); the host port and the links do not reach the boot ROM. -/
def readable (a : Nat) : Bool :=
  match regionOf a with
  | .pages => hasBlock (a / 256)
  | .recipe | .ocv | .sram | .tlmRing | .evBuf => true
  | .bootRom | .unassigned => false

/-- A write to the address is not an address error (R27, R28). -/
def writable (a : Nat) : Bool :=
  match regionOf a with
  | .pages => hasBlock (a / 256)
  | .recipe | .ocv | .sram => true
  | .tlmRing | .evBuf | .bootRom | .unassigned => false

/-! ### Register pages -/

/-- Block code and instance of a page (R117). -/
def blockOf (p : Nat) : Nat × Nat :=
  if 0x40 ≤ p then (0x40, p - 0x40) else if 0x11 ≤ p ∧ p ≤ 0x14 then (0x11, p - 0x11) else (p, 0)

/-- `PID` of a present page (R100, R117). -/
def pidWord (p : Nat) : Nat := 0x100 + (blockOf p).2 * 2 ^ 16 + (blockOf p).1 * 2 ^ 24

/-- `PCAP`, where it depends on the ordering code (R31); the fixed ones are reset values. -/
def State.pcapWord (s : State) (p : Nat) : Nat :=
  let b (x : Bool) (n : Nat) : Nat := if x then 2 ^ n else 0
  let lanes := s.shadow.lanes
  if 0x40 ≤ p then (p - 0x40) + bankOf (p - 0x40) * 2 ^ 8 + b s.shadow.eis 16 + b s.shadow.nimh 17
  else match p with
    | 0x00 => lanes + b s.shadow.eis 8 + b s.shadow.nimh 9 + b s.shadow.grading 10
    | 0x0B => lanes
    | 0x0C => 2 * lanes + lanes / 8 * 2 ^ 8
    | 0x0D => lanes + 8 * 2 ^ 8
    | 0x18 => 8192 + b s.shadow.eis 16 + b s.shadow.nimh 17
    | _ => (s.rd (p * 256 + 4)).toNat

/-- Offsets of the channel-level registers of a LANE page (R110). -/
def chanOff (off : Nat) : Bool :=
  (0x6C ≤ off && off ≤ 0x9C) || (0xA0 ≤ off && off ≤ 0xDC) || (0xE8 ≤ off && off ≤ 0xFC)

/-- A register that reads zero and ignores writes: a channel-level register of a follower (R110), and the sweep's where there is
none (R316). -/
def State.hidden (s : State) (a : Nat) : Bool :=
  let p := a / 256
  let off := a % 256
  0x40 ≤ p && ((chanOff off && !s.isLead (p - 0x40)) || (0xF8 ≤ off && !s.shadow.eis))

/-- The bits of a register that take writes; `PHOFF` of lane 0 is read-only (R178). -/
def rowOf (a : Nat) : RegRow := if a = 0x4054 then { regRow a with rws := 0 } else regRow a

/-- The register has a writable field (R107). -/
def RegRow.writes (r : RegRow) : Bool := r.rw != 0 || r.rws != 0 || r.w1c != 0 || r.act != 0

end Sys2Proof.Machine
end

