-- ==== Sys2Proof/Machine/Bus.lean ====
section
/-!
DEFINITION. Sys2Proof/Machine/Bus.lean: one read and one write of one word of the device-internal address space, by any
initiator: access types, staging, what a write sets off, and the words that show more than a register (chapter 05 and every
page map).
-/

namespace Sys2Proof.Machine

/-! ### Words that show the machine -/

/-- A register word put together from numbers. -/
def wordOf (n : Nat) : Word := BitVec.ofNat 32 n

/-- Lanes of 32 from `base` whose pages hold staged values (R109, R131). -/
def State.pendingWord (s : State) (base : Nat) : Nat :=
  (List.range 32).foldl (fun x i => if s.stage.any (fun e => inPage (pageLANE (base + i)) e.1) then x + 2 ^ i else x) 0

/-- A non-lane page holds staged values (R131). -/
def State.devPending (s : State) : Bool := s.stage.any (fun e => e.1 < 0x4000)

/-- The page events that IRQ_N counts, 32 pages from `base` (R131). -/
def State.irqsumWord (s : State) (k : Nat) : Nat := evsum s.pageIrq (if k = 0 then 0 else 0x20 + 0x20 * k)

/-- Words of a LANE page that the lane and its channel hold (R189, R224, R251, R278, R332). -/
def State.liveLane (s : State) (l off : Nat) : Option Nat :=
  let x := s.lane l
  let q := s.qAccWord l
  let e := s.eAccWord l
  match off with
  | 0x98 => some (s.chstatWord l)
  | 0xA8 => some (s.rstatWord l)
  | 0xB0 => some (min (x.eng.e / 100) (2 ^ 32 - 1))
  | 0xB4 => some (s.chgstatWord l)
  | 0xB8 => some (x.chg.s / 200)
  | 0xE8 => some q
  | 0xEC => some (q / 2 ^ 32)
  | 0xF0 => some e
  | 0xF4 => some (e / 2 ^ 32)
  | 0xFC => some (if s.flag (LANE_EISSTAT_RUN l) then s.frame % max 1 x.swp.cfg.win else 0)
  | _ => none

/-- `CAL` words of the lane and the spare selected (R222). -/
def State.liveCal (s : State) (off : Nat) : Option Nat :=
  let l := s.get CAL_LSEL_LANE
  let m := (s.lane l).meas
  let show_ (x : Int) : Option Nat := some (if s.enabled l then unsigned 32 x else 0)
  match off with
  | 0x48 => show_ m.iS
  | 0x4C => show_ m.vS
  | 0x50 => show_ m.iP
  | 0x54 => show_ m.vP
  | 0x58 => some (s.ltempWord l)
  | 0x60 => some (s.roveStat (s.get CAL_ROVESEL_SPARE))
  | _ => none

/-- `RCP` words: the masks of R252 and the lead that `LSEL` names (R234, R236, R237). -/
def State.liveRcp (s : State) (off : Nat) : Option Nat :=
  let l := s.get RCP_LSEL_LANE
  let e := if s.enabled l && s.isLead l then (s.lane l).eng else Eng.reset
  let run := s.progMask ESt.running
  let wait := s.progMask (· == .barrier)
  let q := unsigned 64 (e.rQ / 1000)
  let w := unsigned 64 (e.rE / 1000000000000)
  let stack (k : Nat) : Option Nat :=
    match e.loops.reverse[k]? with
    | some x => some (x.cnt + x.owner * 65536)
    | none => some 0
  match off with
  | 0x24 => some run
  | 0x28 => some (run / 2 ^ 32)
  | 0x2C => some wait
  | 0x30 => some (wait / 2 ^ 32)
  | 0x7C => some (e.markId + e.markStep * 65536)
  | 0x80 => some e.rFrame
  | 0x84 => some q
  | 0x88 => some (q / 2 ^ 32)
  | 0x8C => some w
  | 0x90 => some (w / 2 ^ 32)
  | 0x94 => some (unsigned 32 e.ocvr)
  | 0x98 => stack 0
  | 0x9C => stack 1
  | 0xA0 => stack 2
  | 0xA4 => stack 3
  | _ => none

/-- `BUS` words of the lead that `CSEL` names (R292). -/
def State.liveBus (s : State) (off : Nat) : Option Nat :=
  let l := s.get BUS_CSEL_LANE
  let c := (s.lane l).chan
  let lead := s.enabled l && s.isLead l
  match off with
  | 0x4C => some (if lead then unsigned 32 (s.bus.last.toList.getD l 0) else 0)
  | 0x50 => some ((if lead then c.age else 0) + (if bit s.bus.aged l then 64 else 0) + s.bus.agesrv.toList.getD l 0 * 65536)
  | _ => none

/-- `EST` words of the lead that `LRNSEL` names (R313). -/
def State.liveEst (s : State) (off : Nat) : Option Nat :=
  let e := s.est (s.get EST_LRNSEL_LANE)
  match off, e.a1 with
  | 0x64, some a => some (a.soc.toNat % 2 ^ 20 + 2 ^ 20)
  | 0x64, none => some 0
  | 0x68, some a => some a.frame
  | 0x68, none => some 0
  | 0x6C, _ => some e.cnew
  | _, _ => none

/-- `SYS` words (R131). -/
def State.liveSys (s : State) (off : Nat) : Option Nat :=
  match off with
  | 0x44 => some (s.pendingWord 0)
  | 0x48 => some (s.pendingWord 32)
  | 0x4C => some (putBits (s.rd 0x4C).toNat 0 1 (if s.devPending then 1 else 0))
  | 0x50 => some (s.evsumWord 0)
  | 0x54 => some (s.evsumWord 1)
  | 0x58 => some (s.evsumWord 2)
  | 0x5C => some (s.irqsumWord 0)
  | 0x60 => some (s.irqsumWord 1)
  | 0x64 => some (s.irqsumWord 2)
  | 0x74 => some s.frame
  | _ => none

/-- A word of page `p` that more than a stored register makes up. -/
def State.liveReg (s : State) (p off : Nat) : Option Word :=
  let n (x : Option Nat) : Option Word := x.map wordOf
  if off = 0x00 then some (wordOf (pidWord p))
  else if off = 0x04 then some (wordOf (s.pcapWord p))
  else if off = 0x0C then some (wordOf (if p = pageCAL then s.calPstat else s.pstat p))
  else if off = 0x10 then some (wordOf (s.pevtRead p))
  else if 0x40 ≤ p then n (s.liveLane (p - 0x40) off)
  else if 0x11 ≤ p ∧ p ≤ 0x14 then if off = 0x28 then some (s.ulkStateWord (p - 0x11)) else none
  else match p with
    | 0x00 => n (s.liveSys off)
    | 0x03 =>
        if off = 0x24 then some (wordOf s.psqStateWord) else if off = 0x54 then some (wordOf s.hkstatWord) else none
    | 0x04 => if off = 0xF4 then
        some (wordOf (putBits (s.rd 0x4F4).toNat 0 12 (s.rail (s.get SUP_SEL_SEL)).code)) else none
    | 0x05 => if off = 0x70 then some s.pcntWord else none
    | 0x06 => s.otpShown off
    | 0x09 => s.rtcShown off
    | 0x0A => s.efuShown off
    | 0x0B => n (s.liveBus off)
    | 0x0C => n (s.liveCal off)
    | 0x0D => n (s.liveEst off)
    | 0x0E => if 0x24 ≤ off ∧ off ≤ 0x48 then some (s.eisShown off) else none
    | 0x0F => s.tlmShown off
    | 0x10 => if off = 0x34 then some (wordOf s.hif.queue.length) else none
    | 0x15 =>
        if off = 0x30 then some (wordOf s.time.ptime)
        else if off = 0x34 then some (wordOf (s.time.ptime / 2 ^ 32)) else s.schedShown off
    | 0x18 => n (s.liveRcp off)
    | _ => none

/-- The word of a register of a present page, staged fields at their staged values (R109). -/
def State.regWord (s : State) (a : Nat) : Word :=
  if s.hidden a then 0
  else match s.liveReg (a / 256) (a % 256) with
    | some w => w
    | none =>
      match s.staged a with
      | some x => let m := wordOf (rowOf a).rws; (s.rd a &&& ~~~m) ||| (x.val &&& m)
      | none => s.rd a

/-! ### Reads (R28, R109, R112) -/

/-- A read of a register by an initiator, with the latches it sets. -/
def State.readReg (s : State) (i : Init) (a : Nat) : Word × State :=
  let p := a / 256
  let off := a % 256
  if s.hidden a then (0, s)
  else if 0x40 ≤ p ∧ off = 0xE8 then s.qaccRead i (p - 0x40)
  else match a with
    | 0xC40 => s.coefRead i
    | 0xE34 => s.zreRead i
    | 0xA44 => s.feedEnergyRead i 0
    | 0xA84 => s.feedEnergyRead i 1
    | 0x1640 => s.mtimeLatch i
    | 0x1668 => let (k, t) := s.draw; (Config.corePc k, t)
    | 0x740 => (s.rd 0x740, s.latch i (· == 0x744) [(0x744, s.rd 0x744)])
    | 0x1530 => s.ptimeLatch i
    | 0x924 => s.rtcRead i 0x24
    | 0x95C => s.rtcRead i 0x5C
    | 0x964 => s.rtcRead i 0x64
    | _ => ((s.latched i a).getD (s.regWord a), s)

/-- A word of the boot ROM, with the call table of R394. -/
def bootWord (a : Nat) : Word :=
  if a = 0xFF0100 then 0x00010009 else if 0xFF0128 ≤ a ∧ a ≤ 0xFF01FC then 0 else Config.romWord a

/-- A read of one word: zero where R28 answers nothing, and in a page that the ordering code removes (R101).  Only the core reads the
boot ROM (R27). -/
def State.readWord (s : State) (i : Init) (a : Nat) : Word × State :=
  if i = .core ∧ regionOf a = .bootRom then (bootWord a, s)
  else if !readable a then (0, s)
  else if a < 0x10000 then (if s.present (a / 256) then s.readReg i a else (0, s))
  else if regionOf a = .recipe then (s.recipeWord a, s)
  else (s.memWord a, s)

/-! ### Page-local reset (R102) -/

/-- A register that a page-local reset leaves: those of the plinth domain, which only a plinth reset restores (R464, R467), and
`CORE.BOOTCFG` (R409). -/
def prstKeeps (a : Nat) : Bool := plinthHeld a || a == 0x1620

/-- A register's RW and RWS fields take their reset values. -/
def State.rowReset (s : State) (a : Nat) (r : RegRow) : State :=
  let m := wordOf (r.rw ||| r.rws)
  if prstKeeps a then s else s.wr a ((s.rd a &&& ~~~m) ||| (resetWord a &&& m))

/-- The page resets its RW and RWS fields, drops its stage and clears its events. -/
def State.pageReset (s : State) (p : Nat) : State :=
  let w := s.rd (p * 256 + 0x50)
  let s := s.dropStage p
  let s := (pageRows p).foldl (fun t r => t.rowReset (p * 256 + r.off) r) s
  let s := s.dropEvents (fun s => ((s.wr (p * 256 + 0x10) 0).wr (p * 256 + 0x14) 0).wr (p * 256 + 0x18) 0)
  if 0x40 ≤ p then
    let s := s.wr (p * 256 + 0x50) w
    if w = 0 then s else s.setStaged (p * 256 + 0x50) (some ⟨0, false⟩)
  else s

/-- What the fields that a page-local reset restored set off.  On the SYS page `MODE.REQ` is restored, and a mode request that waits
for its boundary stands: the model's choice (R102; assumption 64). -/
def State.afterPageReset (s : State) (p : Nat) : State :=
  if 0x40 ≤ p then s.estClear (p - 0x40)
  else match p with
  | 0x08 => s.put REC_NLOG_NLOG (nlogOf (s.get REC_CFG_SIZE))
  | 0x0A => (s.fctlWritten 0 false).fctlWritten 1 false
  | 0x10 => s.putB HIF_CFG_CRCEN (s.flag SYS_STRAP_HCRC)
  | 0x15 => { s with ptm := { s.ptm with scheds := s.ptm.scheds.map (fun (x : Sched) => { Sched.reset with done := x.done }) } }.mrefCtlWritten
  | 0x16 => s.modCore (fun c => { c with mfrac := 0 })
  | _ => s

/-- PRST is honoured in STANDBY, and on a LANE page whose channel is in SAFE (R102). -/
def State.prstOk (s : State) (p : Nat) : Bool :=
  s.mode == .standby ||
    (0x40 ≤ p && (s.members (s.leadOf (p - 0x40))).all (fun n => (s.lane n).st == .safe || (s.lane n).st == .shed))

/-- A write of 1 to `PCTL.PRST` of page `p`. -/
def State.prst (s : State) (p : Nat) : State :=
  if s.prstOk p then (s.pageReset p).afterPageReset p else s.ev pageSYS 3

/-! ### Course commit (R114, R115) -/

/-- A write of `SYS.COMMIT`: arms what is staged now. -/
def State.commitArm (s : State) (data : Nat) : State :=
  let mask := s.laneBits 0x38 0x3C
  let tag := bitsOf data 0 8
  let dev := bit data 8
  let sel := s.enabledLanes.filter (fun n => (s.members (s.leadOf n)).any (fun k => s.enabled k && mask.testBit k))
  let lanes := sel.foldl (fun x n => x + 2 ^ n) 0
  if lanes = 0 ∧ !dev then s
  else
    let covers (a : Nat) : Bool := if a < 0x4000 then dev && s.present (a / 256) else lanes.testBit (a / 256 - 0x40)
    { s with
      arms := s.arms ++ [{
        tag := tag, dev := dev, lanes := lanes, dropped := []
        vals := s.stage.filterMap (fun e => if covers e.1 then e.2.map (fun x => (e.1, x.val)) else none) }]
      stage := s.stage.map (fun e => if covers e.1 then (e.1, e.2.map (fun x => { x with armed := true })) else e) }

/-! ### Writes (R104, R107, R108) -/

/-- The fields of a register that take the write at once: RW, RWS into the stage, W1C. -/
def State.takeWrite (s : State) (a : Nat) (v : Word) : State :=
  let r := rowOf a
  let rw := wordOf r.rw
  let rws := wordOf r.rws
  let old := s.rd a
  let base := match s.staged a with
    | some x => x.val
    | none => old
  let s := s.wr a (((old &&& ~~~rw) ||| (v &&& rw)) &&& ~~~(v &&& wordOf r.w1c))
  if r.rws = 0 then s else s.setStaged a (some ⟨(base &&& ~~~rws) ||| (v &&& rws), false⟩)

/-- A write of `PEVT` (R104, R106); `hw` are bits that hardware sets in the same cycle.  Clearing START_REJ clears `CHSTAT.REJ`
(R167). -/
def State.pevtWrite (s : State) (p clr hw : Nat) : State :=
  let s := s.clearEvents p (if p = 0 then clr % 0x8000 else clr) hw
  if 0x40 ≤ p ∧ clr.testBit 1 ∧ !hw.testBit 1 then s.put (LANE_CHSTAT_REJ (p - 0x40)) 0 else s

/-- A write of `PCTL` of a page: RW bits, `ULKx.PCTL.EN`, PRST. -/
def State.pctlWrite (s : State) (p : Nat) (v : Word) : State :=
  let en : Fld := ⟨p * 256 + 8, 0, 1⟩
  let was := s.flag en
  let s := s.takeWrite (p * 256 + 8) v
  let s := if bit v.toNat 4 then s.prst p else s
  if 0x11 ≤ p ∧ p ≤ 0x14 ∧ s.flag en != was then
    if s.flag en then s.portEnable (p - 0x11) else s.portDisable (p - 0x11)
  else s

/-- A write that the watchdog lock keeps out (R400). -/
def State.wdgCfgWrite (s : State) (a : Nat) (v : Word) : State :=
  if s.flag WDG_CTL_LOCK then s.ev pageWDG 3 else s.takeWrite a v

/-- Bits that a ROLLBACK register gains set CAP_ROLLBACK (R311). -/
def State.rollbackWrite (s : State) (a : Nat) (v : Word) : State :=
  let old := s.rd a
  let s := s.takeWrite a v
  if v &&& ~~~old ≠ 0 then s.ev pageEST 3 else s

/-- CORREN written 0 resets COR (R281). -/
def State.corClear (s : State) : State := { s with bus := { s.bus with cor := 0 } }.putI BUS_NET_COR 0

/-- Writes that do more than take their bits, by register address; none where they do not. -/
def State.writeEffect (s : State) (i : Init) (a : Nat) (v : Word) : Option State :=
  let d := v.toNat
  match a with
  | 0x028 => some (s.requestMode d)
  | 0x040 => some (s.commitArm d)
  | 0x128 => some (s.relockCmd d)
  | 0x220 => some (s.rstCmd d)
  | 0x320 => some (s.psqCmd d)
  | 0x4EC => some (s.supClear (d % 65536))
  | 0x574 => some (s.thmPkclr d)
  | 0x620 => some (s.takeWrite a v).otpReadStart
  | 0x634 => some (s.pgmCmd d)
  | 0x720 | 0x724 | 0x728 => some (s.wdgCfgWrite a v)
  | 0x72C => some (s.wdgCtl (d % 0x10000 &&& 0xFF03))
  | 0x730 => some (s.checkIn d)
  | 0x748 => some (s.capRearm d)
  | 0x820 => let t := s.takeWrite a v; some (t.put REC_NLOG_NLOG (nlogOf (t.get REC_CFG_SIZE)))
  | 0x824 => some (s.takeWrite a (v ||| 256))
  | 0x84C => some (s.flCmd d)
  | 0x858 => some (s.storeCmd i d)
  | 0x8A8 => some (s.clearRespL i v)
  | 0x8AC => some (s.clearRespH i v)
  | 0x8B0 => some (s.clearNonce i d)
  | 0xA20 => some ((s.takeWrite a v).fctlWritten 0 (bit d 1))
  | 0xA60 => some ((s.takeWrite a v).fctlWritten 1 (bit d 1))
  | 0xAA8 => some (s.efuCntclr d)
  | 0xB20 => let t := s.takeWrite a v; some (if bit d 17 then t else t.corClear)
  | 0xC40 => some (s.coefWrite d)
  | 0xC80 | 0xC84 => some (s.wr a (s.rd a ||| v))
  | 0xD28 => some (s.tblCmd d)
  | 0xD30 => some (s.seedWrite d)
  | 0xD34 => let t := s.takeWrite a v; some (if bit d 16 then (t.putB EST_WBCFG_WBREQ true).wbStart else t)
  | 0xD48 | 0xD4C => some (s.rollbackWrite a v)
  | 0xF98 => some (s.pkClr d)
  | 0x102C => some (if bit d 0 then s.wr 0x1028 0 else s)
  | 0x1148 => some (s.ulkCntclr 0 d)
  | 0x1248 => some (s.ulkCntclr 1 d)
  | 0x1348 => some (s.ulkCntclr 2 d)
  | 0x1448 => some (s.ulkCntclr 3 d)
  | 0x1528 => some (s.ptCmd d)
  | 0x1574 => some (s.brCmd d)
  | 0x1580 | 0x1584 | 0x1588 | 0x158C | 0x1590 => some (s.schedWrite (a % 256) (v &&& wordOf (rowOf a).rw))
  | 0x15C0 => some (s.takeWrite a v).mrefCtlWritten
  | 0x15C4 => some (s.takeWrite a v).mrefEval
  | 0x15CC => some (if bit d 0 then s.mrefAcq else s)
  | 0x1628 => some (s.bootCmd i d)
  | 0x1650 => some (if bit d 0 then s.ev pageCORE 0 else s)
  | 0x1664 => let t := s.takeWrite a v; some (if bit d 0 != s.flag CORE_GPIO_WDO then t.wdiToggle true else t)
  | 0x172C => some { s with dbg := { s.dbg with respL := v } }
  | 0x1730 => some (s.debugRespond v)
  | 0x1734 => some (s.dbgCmd d)
  | 0x184C => some (s.barrel d)
  | 0x1870 => some (s.ecmd d)
  | _ => none

/-- The write reaches its page but is not applied, so that `PSEQ` does not count it (R107, R110, R426, R452), or the page is one that the ordering code removes (R2, R101). -/
def State.notApplied (s : State) (i : Init) (a : Nat) : Bool :=
  !s.present (a / 256) || s.hidden a || !(rowOf a).writes || (0x860 ≤ a && a ≤ 0x89C && i != Sys2Proof.Init.core)

/-- A write applied to a register of a present page. -/
def State.writeReg (s : State) (i : Init) (a : Nat) (v : Word) : State :=
  let p := a / 256
  let off := a % 256
  if s.notApplied i a then s
  else if plinthReg a then
    if s.pl.wr.isSome then s.plinthPost a v
    else (s.countMod ⟨p * 256 + 0x1C, 0, 16⟩ 1).plinthPost a v
  else
    let s := s.countMod ⟨p * 256 + 0x1C, 0, 16⟩ 1
    if off = 0x10 then s.pevtWrite p (v.toNat % 65536) 0
    else if off = 0x08 then s.pctlWrite p v
    else match s.writeEffect i a v with
      | some t => t
      | none =>
        let s := s.takeWrite a v
        if 0x40 ≤ p ∧ off = 0xC8 then s.setDirty (p - 0x40)
        else if 0x40 ≤ p ∧ off = 0x6C then
          let s := if bit v.toNat 1 then s.locClr (p - 0x40) else s
          if bit v.toNat 2 then s.shedClr (p - 0x40) else s
        else s

/-- A write to core SRAM: the link table's APPLY, and the claims that the links bring (R496, R510). -/
def State.writeSram (s : State) (i : Init) (a : Nat) (v : Word) : State :=
  let claim : Bool := match i with
    | .u _ => true
    | _ => false
  if a = tabBase + 0x1C then s.tableApply i
  else if claim ∧ a = tabBase + 0x30 then s.claimIn false (v.toNat % 2 ^ 20)
  else if claim ∧ a = tabBase + 0x34 then s.claimIn true (v.toNat % 2 ^ 20)
  else s.setMemWord a v

/-- A write of one word; without effect where R28 says so. -/
def State.writeWord (s : State) (i : Init) (a : Nat) (v : Word) : State :=
  if !writable a then s
  else match regionOf a with
    | .pages => s.writeReg i a v
    | .ocv => (s.setMemWord a (v &&& ocvMask a)).ocvWritten a
    | .sram => s.writeSram i a v
    | _ => s.setMemWord a v

end Sys2Proof.Machine
end

