-- ==== Sys2Proof/Machine/LinkTxn.lean ====
section
/-!
DEFINITION. Sys2Proof/Machine/LinkTxn.lean: received packets, their delivery and forwarding, link transactions, completions and
the resident supervisor's link services (chapters 21 and 22, R394).
-/

namespace Sys2Proof.Machine

/-! ### Checks (R500) -/

/-- DLEN lies in the range of R498 for the type. -/
def dlenOk (p : Sys2Proof.Packet) : Bool :=
  let n := p.dlen.toNat
  match p.typ.toNat with
  | 1 => if !p.rsp then n == 0 else if p.stat = 2 then n == 0 else n == p.rcnt.toNat + 1
  | 2 => 1 ≤ n && n ≤ 64
  | 3 => if p.rsp then n == 0 else 1 ≤ n && n ≤ 64
  | 4 => n == 0
  | 5 => 1 ≤ n && n ≤ 64
  | 6 => 8 ≤ n && n ≤ 64 && n % 8 == 0
  | 7 => n == 8
  | 8 => n == 4
  | 9 => n == 4
  | _ => false

/-- MC matches the type (R498). -/
def mcOk (p : Sys2Proof.Packet) : Bool :=
  match p.typ.toNat with
  | 2 => true
  | 5 => p.mc
  | 8 => p.mc
  | _ => !p.mc

/-- A packet that no member accepts (R500, R520). -/
def txnBad (p : Sys2Proof.Packet) : Bool :=
  let kind := (p.data.getD 0 0).toNat % 16
  !dlenOk p || p.data.length != p.dlen.toNat || (p.mc && Packet.scope p == 3) || !mcOk p
    || (p.hopAddr && !(p.typ == 1 || p.typ == 2 || p.typ == 3)) || (p.typ == 7 && kind != 1 && kind != 2)

/-! ### Delivery and forwarding (R495, R499, R502, R504) -/

/-- The packet waits in the receive queue for this member. -/
def State.deliver (s : State) (r : RxPkt) : State := { s with rxq := s.rxq ++ [r] }

/-- A packet is discarded for its TTL (R502). -/
def State.ttlDrop (s : State) (x : Nat) : State :=
  (s.modLink (fun k => { k with cntTtl := min 255 (k.cntTtl + 1) })).ev (pageULK x) 12

/-- Forwards a received packet out of port `y`, its TTL one less. -/
def State.forward (s : State) (r : RxPkt) (y : Nat) : State :=
  s.enqueue { r.pkt with ttl := r.pkt.ttl - 1 } y (some (r.port, r.seq))

/-- A request whose way ends at the shelf head is answered UNREACH (R504). -/
def State.unreach (s : State) (p : Sys2Proof.Packet) : State :=
  if (p.typ == 1 || p.typ == 3 || p.typ == 4) && !p.rsp then
    s.send { blankPacket with
      typ := p.typ, rsp := true, stat := 2, tag := p.tag, tport := p.tport, w1 := BitVec.ofNat 32 p.src.toNat, rcnt := p.rcnt }
  else s

/-- A unicast packet that is not for this member (R489, R504). -/
def State.unicastOn (s : State) (r : RxPkt) : State :=
  let p := r.pkt
  let k := s.link
  let node := p.w1.toNat % 2 ^ 20
  let own := decide (bitsOf node 18 2 < 2) && addrZone node == addrZone k.addr && addrShelf node == addrShelf k.addr
  let back := otherPort r.port
  if p.ttl.toNat ≤ 1 then s.ttlDrop r.port
  else if 2 ≤ r.port ∧ k.shead then
    if own then s.forward { r with pkt := { p with wrapped := false } } (s.toward false (if bitsOf node 18 2 = 1 then 0 else addrDev node + 1))
    else s.forward r back
  else match s.route node with
    | none => s.unreach p
    | some y => if 2 ≤ y then s.forward { r with pkt := { p with wrapped := false } } y
      else s.forward r (if p.wrapped then back else y)

/-- This device lies within the scope of a multicast (R497). -/
def State.inScope (s : State) (p : Sys2Proof.Packet) : Bool :=
  let w := p.w1.toNat
  let zone := bitsOf w 12 4 == addrZone s.link.addr
  match Packet.scope p with
  | 0 => zone && bitsOf w 16 8 == addrShelf s.link.addr
  | 1 => zone
  | _ => true

/-- This device is a member of a group of its group map (R496). -/
def State.inGroup (s : State) (g : Nat) : Bool := bit (s.link.groups.getD (g / 32) 0) (g % 32)

/-- A multicast is received (R504). -/
def State.multicast (s : State) (r : RxPkt) : State :=
  let p := r.pkt
  let zone := decide (2 ≤ r.port)
  let on (s : State) (r : RxPkt) : State :=
    if p.ttl.toNat ≤ 1 then s.ttlDrop r.port else s.forward r (otherPort r.port)
  if p.ipos.toNat = s.ringPos zone then
    if p.wrapped then on s { r with pkt := { p with passed := true } } else s
  else
    let live := !p.wrapped || p.passed
    let s := if live && s.inScope p && (p.typ != 2 || s.inGroup (p.w1.toNat % 4096)) then s.deliver r else s
    let relay := live && s.link.shead && Packet.scope p != 0 && decide (1 < p.ttl.toNat)
      && (zone || s.lst 2 != 0 || s.lst 3 != 0)
    let s := if relay then s.placeOnRing { p with ttl := p.ttl - 1 } (!zone) (some (r.port, r.seq)) else s
    on s r

/-- The unicast destination is this member: its own address, or for a time the address before the last APPLY (R495). -/
def State.forMe (s : State) (p : Sys2Proof.Packet) : Bool :=
  let node := p.w1.toNat % 2 ^ 20
  (s.link.assigned && node == s.node)
    || (p.rsp && s.link.oldAddr == some node && decide (s.time.loc < s.link.oldEnd))

/-- An accepted packet goes its way. -/
def State.arrive (s : State) (r : RxPkt) : State :=
  let p := r.pkt
  if txnBad p then s.ev (pageULK r.port) 10
  else if p.typ = 7 then s.deliver r
  else if p.hopAddr then
    if p.ttl = 0 then s.ttlDrop r.port
    else if p.ttl = 1 then s.deliver r
    else s.forward r (otherPort r.port)
  else if p.mc then s.multicast r
  else if s.forMe p then s.deliver r
  else s.unicastOn r

/-! ### The receiver (R483, R485) -/

/-- An intact packet with the expected SEQ is accepted. -/
def State.acceptPacket (s : State) (x : Nat) (k : PacketIn) : State :=
  let s := s.put (ULK_SEQ_EXPECT x) (k.seq.toNat + 1)
  let s := s.modPort x (fun p => { p with nakOut := false, rxd := true, ackCnt := p.ackCnt + 1 })
  let s := if s.frz (pageULK x) then s else s.countMod (ULK_RXPKT_COUNT x) 1
  let s := (s.arrive ⟨x, k.seq.toNat, s.time.ptime * 256 - k.age, k.pkt⟩).loopDrop
  if max 1 (s.get (ULK_TIMING_ACKN x)) ≤ (s.port x).ackCnt then s.sendAck x else s

/-- `PACKET_RECEIVED`. -/
def State.packetReceived (s : State) (x : Nat) (k : PacketIn) : State :=
  if !s.running || s.lst x != 4 then s
  else
    let s := s.lineErr x k.err
    let d := (k.seq.toNat + 256 - s.get (ULK_SEQ_EXPECT x)) % 256
    let s := if k.crcOk then s else (s.ulkAdd x (ULK_ERRCNT_CRCCNT x) 1).ev (pageULK x) 3
    let nak := if (s.port x).nakOut then s else s.sendNak x
    if !(k.crcOk && lineClean k.err && k.eop && k.lenOk) then nak
    else if d = 0 then
      if 0 < s.credit x then s.acceptPacket x k else (s.ulkAdd x (ULK_NAKCNT_OVRCNT x) 1).sendNak x
    else if 128 ≤ d then s.sendAck x
    else nak

def execPacketReceived (port : Fin 4) (x : PacketIn) (s : State) : Host.Outcome State Fault Refusal :=
  .next (s.lineClear.packetReceived port.val x)

/-! ### Transactions for this member (R498, R501) -/

/-- Takes the oldest packet that a port holds for this member, if it is of the kind that `q` names. -/
def State.takeRx (s : State) (x : Nat) (q : Sys2Proof.Packet → Bool) : Option (RxPkt × State) :=
  match takeFirst (fun r => r.port == x) s.rxq with
  | some (r, rest) => if q r.pkt then some (r, s.freeing (fun t => { t with rxq := rest })) else none
  | none => none

/-- Runs a transaction of a port: the command does nothing while the port holds no such packet at its head. -/
def State.transact (s : State) (x : Nat) (q : Sys2Proof.Packet → Bool) (f : State → RxPkt → State) : State :=
  let s := s.lineClear
  if !s.running then s
  else match s.takeRx x q with
    | some (r, t) => f t r
    | none => s

/-- A request of a type. -/
def request (t : BitVec 4) (p : Sys2Proof.Packet) : Bool := p.typ == t && !p.rsp

/-- Returns the completion of a request (R501). -/
def State.complete_ (s : State) (p : Sys2Proof.Packet) (stat : BitVec 2) (data : List Word) : State :=
  s.send { blankPacket with
    typ := p.typ, rsp := true, stat := stat, tag := p.tag, tport := p.tport, w1 := BitVec.ofNat 32 p.src.toNat, rcnt := p.rcnt
    dlen := BitVec.ofNat 7 data.length, data := data }

/-- Reads words upward from an address (R121, R501): the words, whether one met R28, and the machine. -/
def State.burstRead (s : State) (i : Init) : Nat → Nat → List Word × Bool × State
  | 0, _ => ([], false, s)
  | n + 1, a =>
    let b := wordAddr a
    let (w, t) := s.readWord i b
    let (ws, bad, u) := t.burstRead i n (a + 4)
    (w :: ws, bad || !readable b, u)

/-- A word names a PORT reset of the port that carries it (R87). -/
def ownReset (x a : Nat) (v : Word) : Bool :=
  a == 0x220 && v.toNat % 8 == 1 && bitsOf v.toNat 4 3 == x + 1 && bitsOf v.toNat 24 8 == 0xA5

/-- What a burst of writes did: an address error, a PORT reset of its own port, which discards the words after it (R87). -/
structure BurstEnd where
  bad : Bool
  stopped : Bool
  deriving DecidableEq, Repr

/-- Writes words upward from an address (R121, R501). -/
def State.burstWrite (s : State) (x : Fin 4) : Nat → List Word → State × BurstEnd
  | _, [] => (s, ⟨false, false⟩)
  | a, v :: vs =>
    let b := wordAddr a
    let bad := !writable b
    let t := s.writeWord (.u x) b v
    if ownReset x.val b v || !t.running then (t, ⟨bad, true⟩)
    else
      let (u, e) := t.burstWrite x (a + 4) vs
      (u, { e with bad := e.bad || bad })

/-- ADDR_ERR of a port (R501, R516). -/
def State.addrErr (s : State) (x : Nat) (bad : Bool) : State := if bad then s.ev (pageULK x) 11 else s

/-- An RD is served. -/
def State.serveRead (s : State) (x : Fin 4) (r : RxPkt) : State :=
  let (ws, bad, t) := s.burstRead (.u x) (r.pkt.rcnt.toNat + 1) r.pkt.addr.toNat
  (t.addrErr x.val bad).complete_ r.pkt (if bad then 1 else 0) ws

/-- A WR, WRN or BCAST is served. -/
def State.serveWrite (s : State) (x : Fin 4) (r : RxPkt) (answer : Bool) : State :=
  let (t, e) := s.burstWrite x r.pkt.addr.toNat r.pkt.data
  let t := if t.running then t.addrErr x.val e.bad else t
  if answer && !e.stopped then t.complete_ r.pkt (if e.bad then 1 else 0) [] else t

def execLinkRdRequest (port : Fin 4) (s : State) : Host.Outcome State Fault Refusal :=
  .next (s.transact port.val (request 1) (fun t r => t.serveRead port r))

def execLinkWrRequest (port : Fin 4) (s : State) : Host.Outcome State Fault Refusal :=
  .next (s.transact port.val (request 2) (fun t r => t.serveWrite port r false))

def execLinkWrnRequest (port : Fin 4) (s : State) : Host.Outcome State Fault Refusal :=
  .next (s.transact port.val (request 3) (fun t r => t.serveWrite port r true))

def execLinkBcast (port : Fin 4) (s : State) : Host.Outcome State Fault Refusal :=
  .next (s.transact port.val (request 5) (fun t r => t.serveWrite port r false))

/-- A FENCE completes once every access accepted before it on any port is applied (R503). -/
def execLinkFenceRequest (port : Fin 4) (s : State) : Host.Outcome State Fault Refusal :=
  .next (if (s.rxq.head?.map (fun r => r.port)) = some port.val then
      s.transact port.val (request 4) (fun t r => t.complete_ r.pkt 0 [])
    else s.lineClear)

/-- A SUMMARY of a device of the own shelf is collected; one of another shelf head goes on to ZCTRL (R507). -/
def State.serveSummary (s : State) (r : RxPkt) : State :=
  let src := r.pkt.src.toNat % 2 ^ 18
  let own := addrZone src == addrZone s.link.addr && addrShelf src == addrShelf s.link.addr
  if own then if s.link.shead then s.sumCollect r.pkt.data else s
  else if s.link.keyst then s.sumUp r.pkt.data
  else s

def execLinkSummary (port : Fin 4) (s : State) : Host.Outcome State Fault Refusal :=
  .next (s.transact port.val (request 6) State.serveSummary)

/-- A TIMESYNC of a KIND (R520). -/
def timesync (kind : Nat) (p : Sys2Proof.Packet) : Bool := p.typ == 7 && (p.data.getD 0 0).toNat % 16 == kind

def execTimesyncReq (port : Fin 4) (s : State) : Host.Outcome State Fault Refusal :=
  .next (s.transact port.val (timesync 1) (fun t r => t.syncAnswer port.val r))

def execTimesyncRsp (port : Fin 4) (s : State) : Host.Outcome State Fault Refusal :=
  .next (s.transact port.val (timesync 2) (fun t r => t.syncResponse port.val r))

def execBarrierMessage (port : Fin 4) (s : State) : Host.Outcome State Fault Refusal :=
  .next (s.transact port.val (request 8) (fun t r => t.barrierIn r.pkt.data))

/-- An EVENT for this member has no effect on it (R498, R506). -/
def execEventMessage (port : Fin 4) (s : State) : Host.Outcome State Fault Refusal :=
  .next (s.transact port.val (request 9) (fun t _ => t))

/-! ### Completions (R501) -/

/-- A completion that holds a blocking service returns to its caller, an RD with its data (R394). -/
def State.svcCompleted (s : State) (p : Sys2Proof.Packet) : State :=
  match s.core.wait with
  | some w =>
    if w.port = p.tport.toNat ∧ w.tag = p.tag.toNat then
      let s := if w.kind = 1 ∧ p.stat ≠ 2 then s.setMemWords w.buf p.data else s
      (s.svcReturn p.stat.toNat s.core.a1.toNat).modCore (fun c => { c with wait := none })
    else s
  | none => s

/-- A completion is matched on TPORT and TAG. -/
def State.completion (s : State) (x : Nat) (r : RxPkt) : State :=
  let p := r.pkt
  let y := p.tport.toNat
  match takeFirst (fun (t : TagUse) => t.tag == p.tag.toNat) (s.port y).tags with
  | none => (s.modLink (fun k => { k with cntLate := min 255 (k.cntLate + 1) })).ev (pageULK x) 14
  | some (t, rest) =>
    let s := s.modPort y (fun q => { q with tags := rest })
    if t.walk then s.walkReply p.src.toNat p.stat.toNat else s.svcCompleted p

def execCompletionReceived (port : Fin 4) (s : State) : Host.Outcome State Fault Refusal :=
  .next (s.transact port.val (fun p => p.rsp) (fun t r => t.completion port.val r))

/-- `TAG_TIMEOUT`: CPLTO has passed for a tag of a port. -/
def State.tagTimeout (s : State) (x tag : Nat) : State :=
  if !s.running then s
  else match takeFirst (fun (t : TagUse) => t.tag == tag) (s.port x).tags with
    | none => s
    | some (t, rest) =>
      let s := (s.modPort x (fun q => { q with tags := rest })).modLink (fun k => { k with cntTo := min 255 (k.cntTo + 1) })
      s.tagLocal x 3 t

def execTagTimeout (port : Fin 4) (tag : BitVec 7) (s : State) : Host.Outcome State Fault Refusal :=
  .next (s.lineClear.tagTimeout port.val tag.toNat)

/-! ### Services of the resident supervisor (R394) -/

/-- The arguments of LINK_RD, LINK_WR and LINK_WRN lie in their ranges. -/
def svcArgsOk (q : SvcReq) : Bool :=
  let n := q.words.toNat
  let b := q.buf.toNat
  q.node.toNat < 2 ^ 20 && q.addr.toNat < 2 ^ 24 && 1 ≤ n && n ≤ 64 && b % 4 == 0 && inSram b && inSram (b + 4 * n - 1)

/-- The request of a service. -/
def State.svcPacket (s : State) (q : SvcReq) (typ : BitVec 4) : Sys2Proof.Packet :=
  let f := q.flags.toNat
  let n := q.words.toNat
  let data := if typ = 1 then [] else s.memWords q.buf.toNat n
  { blankPacket with
    typ := typ, hopAddr := bit f 0, ttl := if bit f 0 then BitVec.ofNat 8 (f / 256) else 255
    w1 := q.node, addr := BitVec.ofNat 24 q.addr.toNat, rcnt := if typ = 1 then BitVec.ofNat 6 (n - 1) else 0
    dlen := BitVec.ofNat 7 data.length, data := data }

/-- The port on which a request of this device leaves: forward on the shelf ring under hop addressing (R512), by its route
otherwise. -/
def State.svcPort (s : State) (p : Sys2Proof.Packet) : Option Nat :=
  if p.hopAddr then some 1 else s.route (p.w1.toNat % 2 ^ 20)

/-- A blocking service issues its request and waits (R394).  Without a free tag the call waits before it issues (R501), so the command
does nothing yet; where the shelf head has no route it returns UNREACH (R504). -/
def State.svcIssue (s : State) (p : Sys2Proof.Packet) (kind buf : Nat) : State :=
  match s.svcPort p with
  | none => s.svcReturn 2 s.core.a1.toNat
  | some y =>
    match s.issue p y false with
    | (t, some (x, tag)) => t.modCore (fun c => { c with wait := some ⟨kind, x, tag, buf⟩ })
    | (t, none) => t

/-- LINK_RD and LINK_WRN. -/
def State.svcBlock (s : State) (q : SvcReq) (typ : BitVec 4) : State :=
  if q.inHandler || s.core.wait.isSome then s.svcReturn 6 s.core.a1.toNat
  else if !svcArgsOk q then s.svcReturn 5 s.core.a1.toNat
  else s.svcIssue (s.svcPacket q typ) typ.toNat q.buf.toNat

/-- User firmware runs and can call a service. -/
def State.svcRuns (s : State) : Bool := s.running && s.coreRuns

def execSvcLinkRd (q : SvcReq) (s : State) : Host.Outcome State Fault Refusal :=
  .next (if s.svcRuns then s.lineClear.svcBlock q 1 else s)

def execSvcLinkWrn (q : SvcReq) (s : State) : Host.Outcome State Fault Refusal :=
  .next (if s.svcRuns then s.lineClear.svcBlock q 3 else s)

/-- LINK_WR: a posted write, accepted at once (R394). -/
def State.svcPosted (s : State) (q : SvcReq) : State :=
  let a1 := s.core.a1.toNat
  if !svcArgsOk q then s.svcReturn 5 a1
  else
    let p := { s.svcPacket q 2 with src := BitVec.ofNat 20 s.node }
    match s.svcPort p with
    | some y => (s.enqueue p y none).svcReturn 0 a1
    | none => s.svcReturn 0 a1

def execSvcLinkWr (q : SvcReq) (s : State) : Host.Outcome State Fault Refusal :=
  .next (if s.svcRuns then s.lineClear.svcPosted q else s)

/-- LINK_FENCE. -/
def State.svcFence (s : State) (node : Word) (inHandler : Bool) : State :=
  let a1 := s.core.a1.toNat
  if inHandler || s.core.wait.isSome then s.svcReturn 6 a1
  else if 2 ^ 20 ≤ node.toNat then s.svcReturn 5 a1
  else s.svcIssue { blankPacket with typ := 4, w1 := node } 4 0

def execSvcLinkFence (node : Word) (inHandler : Bool) (s : State) : Host.Outcome State Fault Refusal :=
  .next (if s.svcRuns then s.lineClear.svcFence node inHandler else s)

/-- TAB_READ. -/
def State.svcTabRead (s : State) (off : Nat) : State :=
  if off % 4 ≠ 0 ∨ 0x400 ≤ off then s.svcReturn 5 s.core.a1.toNat else s.svcReturn 0 (s.tab off)

def execSvcTabRead (off : Word) (s : State) : Host.Outcome State Fault Refusal :=
  .next (if s.svcRuns then s.svcTabRead off.toNat else s)

/-- TAB_WRITE. -/
def State.svcTabWrite (s : State) (off : Nat) (v : Word) : State :=
  let a1 := s.core.a1.toNat
  if off % 4 = 0 ∧ (off ≤ 0x18 ∨ (0x200 ≤ off ∧ off ≤ 0x3FC)) then (s.setTab off v.toNat).svcReturn 0 a1 else s.svcReturn 5 a1

def execSvcTabWrite (off : Word) (data : Word) (s : State) : Host.Outcome State Fault Refusal :=
  .next (if s.svcRuns then s.svcTabWrite off.toNat data else s)

def execSvcTabApply (s : State) : Host.Outcome State Fault Refusal :=
  .next (if s.svcRuns then (s.tableApply .core).svcReturn 0 s.core.a1.toNat else s)

/-- WALK. -/
def State.svcWalk (s : State) (ring : Nat) : State :=
  let a1 := s.core.a1.toNat
  if 2 ≤ ring then s.svcReturn 5 a1
  else if s.link.walk.isSome then s.svcReturn 6 a1
  else (s.walkStart (ring == 1)).svcReturn 0 a1

def execSvcWalk (ring : Word) (s : State) : Host.Outcome State Fault Refusal :=
  .next (if s.svcRuns then s.lineClear.svcWalk ring.toNat else s)

end Sys2Proof.Machine
end

