-- ==== Sys2Proof/Machine/HostPort.lean ====
section
/-!
DEFINITION. Sys2Proof/Machine/HostPort.lean: the SPI host port, frame by frame, and its posted-write queue (chapter 05).
-/

namespace Sys2Proof.Machine

def State.modHif (s : State) (f : Hif → Hif) : State := { s with hif := f s.hif }

/-! ### Status and errors (R122, R123) -/

/-- The codes of PREV_ERR (R123). -/
def HostErr.code : HostErr → Nat
  | .none => 0 | .addr => 1 | .crc => 2 | .stale => 3 | .opcode => 4 | .frame => 5 | .notReady => 6 | .overflow => 7

/-- READY (R122). -/
def State.hostReady (s : State) : Bool := s.running && s.mode != .deepSleep && !s.hif.resetting

/-- The status byte (R122). -/
def State.hostStatus (s : State) : Nat :=
  let b (x : Bool) (n : Nat) : Nat := if x then 2 ^ n else 0
  if !s.hostReady then 0
  else b (s.flag HIF_CFG_CRCEN) 7 + b s.fltN 6 + b s.irqN 5 + s.hif.prevErr.code * 4 + b s.pins.safeIn 1 + 1

/-- The counter of `HIF.ERRCNT` and the PEVT bit of an error (R130). -/
def errCount : HostErr → Fld × Option Nat
  | .crc => (HIF_ERRCNT_CRCCNT, some 0)
  | .addr => (HIF_ERRCNT_ADDRCNT, some 1)
  | .stale => (HIF_ERRCNT_STALECNT, some 2)
  | .opcode => (HIF_ERRCNT_OTHCNT, some 3)
  | .frame => (HIF_ERRCNT_OTHCNT, some 4)
  | .overflow => (HIF_ERRCNT_OTHCNT, some 5)
  | _ => (HIF_ERRCNT_OTHCNT, none)

/-- An error of the present frame: the first of a frame is its outcome, the first since a clear is held in `ERRSTAT`, and every one
is counted (R123, R130).  `a` is none where the frame gave no whole address.  In DEVICE reset a frame's NOTREADY is neither counted
nor held, as the registers are in reset: the model's choice (assumption 65). -/
def State.hostErr (s : State) (e : HostErr) (a : Option Nat) : State :=
  let s := s.modHif (fun h => { h with prevErr := if h.prevErr = .none then e else h.prevErr })
  if s.rst.inReset then s
  else
    let s := if s.flag HIF_ERRSTAT_VALID then s
      else
        let (addr, s) := match a with
          | some a => (wordAddr a, s)
          | none => let (k, t) := s.draw; ((Config.errAddr k).toNat, t)
        ((s.put HIF_ERRSTAT_ADDR addr).put HIF_ERRSTAT_CODE e.code).putB HIF_ERRSTAT_VALID true
    let s := s.count (s.frz pageHIF) (errCount e).1
    match (errCount e).2 with
    | some i => s.ev pageHIF i
    | none => s

/-- A frame begins: the status byte goes out, and with READY = 1 the frame is counted and `body` runs; with READY = 0 it is ignored
(R122, R130).  The fall of CS_N is a wake source in DEEP_SLEEP (R94). -/
def State.hostFrame (s : State) (body : State → State) : State :=
  if s.psq.st = .powerless then s
  else
    let s := s.wakeMark 5
    let st := s.hostStatus
    let ready := s.hostReady
    let s := s.modHif (fun h => { h with prevErr := .none, reply := ⟨st, []⟩ })
    if !ready then s.hostErr .notReady none
    else body (if s.frz pageHIF then s else s.countMod HIF_FRAMES_COUNT 1)

/-! ### The posted-write queue (R111 to R113, R125) -/

/-- `SYS.FENCE`. -/
def fenceAddr : Nat := 0x034

/-- Takes the entry of the queue that ordering unit `u` may apply now: its oldest, no fence before it, and a fence only when it
is the oldest of all (R111, R113). -/
def takeUnit (u : Nat) : List (Nat × Word) → Option ((Nat × Word) × List (Nat × Word))
  | [] => none
  | e :: es =>
    if unitOf e.1 = u then some (e, es)
    else if e.1 = fenceAddr then none
    else match takeUnit u es with
      | some (x, rest) => if x.1 = fenceAddr then none else some (x, e :: rest)
      | none => none

/-- `HOST_WRITE_APPLY`: an ordering unit applies the host port's oldest write to it. -/
def State.hostApply (s : State) (u : Nat) : State :=
  if !s.running then s
  else match takeUnit u s.hif.queue with
    | some (e, rest) => (s.modHif (fun h => { h with queue := rest })).writeWord .host e.1 e.2
    | none => s

/-- Ordering units apply a host write each, in the order given. -/
def State.hostApplies (s : State) (us : List (BitVec 16)) : State := us.foldl (fun t u => t.hostApply u.toNat) s

def execHostWriteApply (unit : BitVec 16) (s : State) : Host.Outcome State Fault Refusal := .next (s.hostApply unit.toNat)

/-! ### Words of a frame (R121, R123 to R125) -/

/-- A number as bytes, most significant first (R118). -/
def bytesBE (n x : Nat) : List Byte := (List.range n).map (fun i => BitVec.ofNat 8 (x / 256 ^ (n - 1 - i)))

/-- The running CRC-8 of a frame after words (R124). -/
def frameCrc (op addr : Nat) (ws : List Word) : Nat :=
  crc8 (BitVec.ofNat 8 op :: bytesBE 3 addr ++ ws.flatMap (fun w => bytesBE 4 w.toNat))

/-- A posted write of `RST.CMD` that resets the host port (R87). -/
def hostReset (a : Nat) (v : Word) : Bool :=
  a == 0x220 && v.toNat % 8 == 1 && bitsOf v.toNat 4 3 == 0 && bitsOf v.toNat 24 8 == 0xA5

/-- A whole word arrives for the posted-write queue of 32 (R125). -/
def State.hostPost (s : State) (a : Nat) (v : Word) : State :=
  if 32 ≤ s.hif.queue.length then s.hostErr .overflow (some a)
  else
    let s := s.modHif (fun h => { h with queue := h.queue ++ [(a, v)] })
    if writable a then s else s.hostErr .addr (some a)

/-- The data words of a write frame: `sent` holds those received so far, and `crcOn` the CRC mode at the frame's start.  A reset of
the port or of the device that a write applied meanwhile has begun discards the rest of the frame (R85, R87, R122). -/
def State.hostWords (s : State) (crcOn : Bool) (op addr : Nat) (cut : FrameCut) : List Word → List HostWord → State
  | sent, [] => if cut = .inWord then s.hostErr .frame (some (addr + 4 * sent.length)) else s
  | sent, w :: ws =>
    let a := wordAddr (addr + 4 * sent.length)
    let all := sent ++ [w.data]
    let s := s.hostApplies w.applied
    if !s.hostReady then s
    else if crcOn ∧ frameCrc op addr all ≠ w.crc.toNat then s.hostErr .crc (some a)
    else
      let room := decide (s.hif.queue.length < 32)
      let s := s.hostPost a w.data
      if room && hostReset a w.data then s.modHif (fun h => { h with prevErr := .none })
      else s.hostWords crcOn op addr cut all ws

/-- The part of a frame before its data (R123): `body` runs when the address is complete. -/
def State.hostHead (s : State) (cut : FrameCut) (body : State → State) : State :=
  s.hostFrame (fun s =>
    match cut with
    | .inOpcode | .inAddress => s.hostErr .frame none
    | _ => body s)

/-- A write frame (R119). -/
def State.hostWrite (s : State) (op : Nat) (x : WriteFrame) : State :=
  let crcOn := s.flag HIF_CFG_CRCEN
  s.hostHead x.cut (fun s => s.hostWords crcOn op x.addr.toNat x.cut [] x.words)

/-- A host write to the ordering unit of `a` waits in the queue (R112). -/
def State.hostPending (s : State) (a : Nat) : Bool := s.hif.queue.any (fun e => unitOf e.1 == unitOf a)

/-- One word read by the host port: zero with ADDR, free with STALE (R28, R112, R123). -/
def State.hostFetch (s : State) (a : Nat) : Word × State :=
  if !readable a then (0, s.hostErr .addr (some a))
  else if s.hostPending a then
    let (k, t) := s.draw
    (Config.staleWord k, t.hostErr .stale (some a))
  else s.readWord .host a

/-- The words of a read frame, after those `sent`, until a reset of the port or of the device cuts it (R85, R87, R122). -/
def State.hostReads (s : State) (crcOn : Bool) (op addr : Nat) (cut : FrameCut) : List Word → List (List (BitVec 16)) → State
  | sent, [] => if cut = .inWord then s.hostErr .frame (some (addr + 4 * sent.length)) else s
  | sent, us :: rest =>
    let s := s.hostApplies us
    if !s.hostReady then s
    else
      let (w, t) := s.hostFetch (wordAddr (addr + 4 * sent.length))
      let all := sent ++ [w]
      let c : Byte := if crcOn then BitVec.ofNat 8 (frameCrc op addr all) else 0
      (t.modHif (fun h => { h with reply := { h.reply with words := h.reply.words ++ [(w, c)] } })).hostReads crcOn op addr cut all rest

/-- A read frame (R119). -/
def State.hostRead (s : State) (op : Nat) (x : ReadFrame) : State :=
  let crcOn := s.flag HIF_CFG_CRCEN
  s.hostHead x.cut (fun s => s.hostReads crcOn op x.addr.toNat x.cut [] x.words)

def execHostNop (s : State) : Host.Outcome State Fault Refusal := .next (s.hostFrame id)

def execHostWr (x : WriteFrame) (s : State) : Host.Outcome State Fault Refusal := .next (s.hostWrite 0x02 x)

def execHostRd (x : ReadFrame) (s : State) : Host.Outcome State Fault Refusal := .next (s.hostRead 0x03 x)

def execHostWrq (x : WriteFrame) (s : State) : Host.Outcome State Fault Refusal := .next (s.hostWrite 0x12 x)

def execHostRdq (x : ReadFrame) (s : State) : Host.Outcome State Fault Refusal := .next (s.hostRead 0x13 x)

/-- A frame of an opcode and nothing after it that R119 could use: OPCODE, or FRAME where the opcode is cut or calls for an
address (R119, R123). -/
def State.hostOpcode (s : State) (op : Nat) (cut : Bool) : State :=
  s.hostFrame (fun s =>
    if cut then s.hostErr .frame none
    else if op = 0 then s
    else if op = 0x02 ∨ op = 0x03 ∨ op = 0x12 ∨ op = 0x13 then s.hostErr .frame none
    else s.hostErr .opcode none)

def execBadOpcode (op : Byte) (cut : Bool) (s : State) : Host.Outcome State Fault Refusal := .next (s.hostOpcode op.toNat cut)

/-- A list of writes cut after its last fence. -/
def lastFence : List (Nat × Word) → List (Nat × Word) × List (Nat × Word)
  | [] => ([], [])
  | e :: es =>
    let r := lastFence es
    if e.1 = fenceAddr ∨ !r.1.isEmpty then (e :: r.1, r.2) else ([], e :: r.2)

/-- A posted write is applied. -/
def State.applyPosted (s : State) (e : Nat × Word) : State := if s.running then s.writeWord .host e.1 e.2 else s

/-- A host access to ordering unit `u` comes after the host's earlier writes to it: those up to the last fence, and those of the unit
behind it, are applied first (R111, R113). -/
def State.catchUp (s : State) (u : Nat) : State :=
  let r := lastFence s.hif.queue
  let here (e : Nat × Word) : Bool := unitOf e.1 == u
  (r.1 ++ r.2.filter here).foldl State.applyPosted (s.modHif (fun h => { h with queue := r.2.filter (fun e => !here e) }))

/-- Applies every write that waits, oldest first. -/
def State.hostDrain (s : State) : State :=
  s.hif.queue.foldl (fun t e =>
    if t.running then (t.modHif (fun h => { h with queue := h.queue.drop 1 })).writeWord .host e.1 e.2 else t) s

end Sys2Proof.Machine
end

