-- ==== Sys2Proof/Machine/Writes.lean ====
section
/-!
DEFINITION. Sys2Proof/Machine/Writes.lean: the rows that are one register access.  Each goes through the one write and the one read
of Bus.lean; a row that names some fields of a register leaves the others as a read shows them.
-/

namespace Sys2Proof.Machine

/-- An access by an initiator to the unit of `a`: the host port's comes after its own earlier writes there (R111).  Accesses of
several initiators act in the order in which they are given (assumption 65). -/
def State.inOrder (s : State) (i : Init) (a : Nat) : State := if i = Sys2Proof.Init.host then s.catchUp (unitOf a) else s

/-- The state in which a row's access to the unit of `a` finds the registers: while they are alive, after the initiator's earlier
writes there (R111). -/
def State.ordered (s : State) (i : Init) (a : Nat) : State := if s.running then s.inOrder i a else s

/-- One write of a register, while registers are alive (R83). -/
def State.writeNow (s : State) (i : Init) (a : Nat) (v : Word) : State := if s.running then s.writeWord i a v else s

/-- One write of a register that a row names (R107, R108, R111). -/
def State.writeRow (s : State) (i : Init) (a : Nat) (v : Word) : State := (s.ordered i a).writeNow i a v

/-- A write that sets bits of `v` in a register and leaves its other bits as they read. -/
def State.setBitsRow (s : State) (i : Init) (a : Nat) (v : Word) : State :=
  let s := s.ordered i a
  s.writeNow i a (s.regWord a ||| v)

/-- One read of a register that a row names, with the latches it sets (R108); the host port's read is answered STALE while a write
of its own to that unit waits, and then reads nothing (R112). -/
def State.readRow (s : State) (i : Init) (a : Nat) : State :=
  if !s.running then s
  else if i = Sys2Proof.Init.host ∧ s.hostPending a then s.hostErr .stale (some a)
  else (s.readWord i a).2

/-! ### Any register (R28, R102, R104, R108, R113, R114) -/

/-- The port that carried a write to no writable address reports an address error (R28); the core takes an access fault (R386). -/
def State.portErr (s : State) (i : Init) (a : Nat) : State :=
  match i with
  | .u x => s.addrErr x.val true
  | .host => s.hostErr .addr (some a)
  | .core => s

/-- `REG_WRITE`. -/
def State.regWriteRow (s : State) (i : Init) (a : Nat) (v : Word) : State :=
  let a := wordAddr a
  if !s.running || writable a then s.writeRow i a v else s.portErr i a

def execRegWrite (i : Init) (addr : BitVec 24) (data : Word) (s : State) : Host.Outcome State Fault Refusal :=
  .next (s.regWriteRow i addr.toNat data)

/-- `PEVT_CLEAR`: a write of `PEVT` of a page in a cycle in which hardware sets the events `hw` (R104, R106). -/
def State.pevtRow (s : State) (i : Init) (p clr hw : Nat) : State :=
  let a := p * 256 + 0x10
  if !s.running then s
  else if !hasBlock p then s.portErr i a
  else
    let s := s.ordered i a
    if s.running && s.present p then (s.countMod ⟨p * 256 + 0x1C, 0, 16⟩ 1).pevtWrite p clr hw else s

def execPevtClear (i : Init) (page : Byte) (clr : BitVec 16) (hw : BitVec 16) (s : State) : Host.Outcome State Fault Refusal :=
  .next (s.pevtRow i page.toNat clr.toNat hw.toNat)

/-- `PAGE_PRST`: a write of 1 to `PCTL.PRST` (R28, R102). -/
def State.prstRow (s : State) (i : Init) (p : Nat) : State :=
  if s.running && !hasBlock p then s.portErr i (p * 256 + 8) else s.setBitsRow i (p * 256 + 8) 0x10

def execPagePrst (i : Init) (page : Byte) (s : State) : Host.Outcome State Fault Refusal :=
  .next (s.prstRow i page.toNat)

/-- `FENCE`: every earlier write of the initiator is applied before the fence is (R113). -/
def State.fenceRow (s : State) (i : Init) (v : Word) : State :=
  if i = Sys2Proof.Init.host then (if s.running then s.hostDrain else s).writeRow i fenceAddr v else s.writeRow i fenceAddr v

def execFence (i : Init) (data : Word) (s : State) : Host.Outcome State Fault Refusal := .next (s.fenceRow i data)

def execCommit (i : Init) (data : Word) (s : State) : Host.Outcome State Fault Refusal := .next (s.writeRow i 0x040 data)

def execHifCntclr (i : Init) (data : Word) (s : State) : Host.Outcome State Fault Refusal :=
  .next (s.writeRow i 0x102C (data ||| 1))

/-! ### Supplies, clocks, resets and modes (R62, R56, R78, R82, R91) -/

def execPsqOnRequest (i : Init) (s : State) : Host.Outcome State Fault Refusal := .next (s.writeRow i 0x320 1)

def execPsqOffRequest (i : Init) (s : State) : Host.Outcome State Fault Refusal := .next (s.writeRow i 0x320 2)

def execSupCntclr (i : Init) (data : Word) (s : State) : Host.Outcome State Fault Refusal := .next (s.writeRow i 0x4EC data)

def execClkRelock (i : Init) (s : State) : Host.Outcome State Fault Refusal := .next (s.writeRow i 0x128 1)

/-- The word of `RST.CMD` (R82). -/
def rstWord (key sel scope : Nat) : Word := wordOf (key * 2 ^ 24 + sel * 16 + scope)

def execRstPort (i : Init) (sel : BitVec 3) (key : Byte) (s : State) : Host.Outcome State Fault Refusal :=
  .next (s.writeRow i 0x220 (rstWord key.toNat sel.toNat 1))

def execRstChan (i : Init) (key : Byte) (s : State) : Host.Outcome State Fault Refusal :=
  .next (s.writeRow i 0x220 (rstWord key.toNat 0 2))

def execRstCore (i : Init) (key : Byte) (s : State) : Host.Outcome State Fault Refusal :=
  .next (s.writeRow i 0x220 (rstWord key.toNat 0 3))

def execRstDevice (i : Init) (key : Byte) (s : State) : Host.Outcome State Fault Refusal :=
  .next (s.writeRow i 0x220 (rstWord key.toNat 0 4))

/-- A write of `SYS.MODE.REQ` (R91). -/
def State.modeRow (s : State) (i : Init) (req : Nat) : State :=
  let s := s.ordered i 0x028
  s.writeNow i 0x028 (wordOf (putBits (s.regWord 0x028).toNat 0 2 req))

def execModeReqRun (i : Init) (s : State) : Host.Outcome State Fault Refusal := .next (s.modeRow i 0)

def execModeReqStandby (i : Init) (s : State) : Host.Outcome State Fault Refusal := .next (s.modeRow i 1)

def execModeReqDeepSleep (i : Init) (s : State) : Host.Outcome State Fault Refusal := .next (s.modeRow i 2)

/-! ### Lanes, measurement, engine and estimator -/

def execMrefAcq (i : Init) (s : State) : Host.Outcome State Fault Refusal := .next (s.writeRow i 0x15CC 1)

/-- A write of `MREFCTL` with SYNCEN = 0 and GLIDE as given (R151). -/
def State.syncenRow (s : State) (i : Init) (glide : Nat) : State :=
  let s := s.ordered i 0x15C0
  s.writeNow i 0x15C0 (wordOf (putBits (putBits (s.regWord 0x15C0).toNat 0 1 0) 4 3 glide))

def execMrefSyncenClear (i : Init) (glide : BitVec 3) (s : State) : Host.Outcome State Fault Refusal :=
  .next (s.syncenRow i glide.toNat)

def execLocclr (i : Init) (lane : LaneNo) (s : State) : Host.Outcome State Fault Refusal :=
  .next (s.setBitsRow i (LANE_CHCTL_RUN lane.val).addr 2)

def execShedclr (i : Init) (lane : LaneNo) (s : State) : Host.Outcome State Fault Refusal :=
  .next (s.setBitsRow i (LANE_CHCTL_RUN lane.val).addr 4)

def execCalCoefWrite (i : Init) (data : Word) (s : State) : Host.Outcome State Fault Refusal := .next (s.writeRow i 0xC40 data)

def execCalCoefRead (i : Init) (s : State) : Host.Outcome State Fault Refusal := .next (s.readRow i 0xC40)

def execAccclr (i : Init) (high : Bool) (lanes : Word) (s : State) : Host.Outcome State Fault Refusal :=
  .next (s.writeRow i (if high then 0xC84 else 0xC80) lanes)

def execQaccRead (i : Init) (lane : LaneNo) (s : State) : Host.Outcome State Fault Refusal :=
  .next (s.readRow i (pageLANE lane.val * 256 + 0xE8))

def execRcpBarrel (i : Init) (data : Word) (s : State) : Host.Outcome State Fault Refusal := .next (s.writeRow i 0x184C data)

def execRcpEcmd (i : Init) (data : Word) (s : State) : Host.Outcome State Fault Refusal := .next (s.writeRow i 0x1870 data)

def execEstSeed (i : Init) (data : Word) (s : State) : Host.Outcome State Fault Refusal := .next (s.writeRow i 0xD30 data)

def execTblcmd (i : Init) (data : Word) (s : State) : Host.Outcome State Fault Refusal := .next (s.writeRow i 0xD28 data)

def execWbreq (i : Init) (data : Word) (s : State) : Host.Outcome State Fault Refusal :=
  .next (s.writeRow i 0xD34 (data ||| 0x10000))

/-! ### Telemetry, input protection and thermal control -/

def execTlmPkclr (i : Init) (data : Word) (s : State) : Host.Outcome State Fault Refusal := .next (s.writeRow i 0xF98 data)

def execEfuEnergyRead (i : Init) (feed : Fin 2) (s : State) : Host.Outcome State Fault Refusal :=
  .next (s.readRow i (0xA44 + 0x40 * feed.val))

def execEisZreRead (i : Init) (s : State) : Host.Outcome State Fault Refusal := .next (s.readRow i 0xE34)

/-- A write of `FCTLf` with EN as given (R358). -/
def State.feedEnRow (s : State) (i : Init) (f : Nat) (en : Bool) : State :=
  let a := 0xA20 + 0x40 * f
  let s := s.ordered i a
  s.writeNow i a (wordOf (putBits (putBits (s.regWord a).toNat 0 1 (if en then 1 else 0)) 1 1 0))

def execEfuFeedEnable (i : Init) (feed : Fin 2) (s : State) : Host.Outcome State Fault Refusal := .next (s.feedEnRow i feed.val true)

def execEfuFeedDisable (i : Init) (feed : Fin 2) (s : State) : Host.Outcome State Fault Refusal := .next (s.feedEnRow i feed.val false)

def execEfuClr (i : Init) (feed : Fin 2) (s : State) : Host.Outcome State Fault Refusal :=
  .next (s.setBitsRow i (0xA20 + 0x40 * feed.val) 2)

def execEfuCntclr (i : Init) (data : Word) (s : State) : Host.Outcome State Fault Refusal := .next (s.writeRow i 0xAA8 data)

def execThmPkclr (i : Init) (data : Word) (s : State) : Host.Outcome State Fault Refusal := .next (s.writeRow i 0x574 data)

/-! ### Control core, watchdog and debug -/

def execMtimeRead (i : Init) (s : State) : Host.Outcome State Fault Refusal := .next (s.readRow i 0x1640)

def execBootGo (i : Init) (data : Word) (s : State) : Host.Outcome State Fault Refusal :=
  .next (s.writeRow i 0x1628 (data ||| 1))

def execCoreC2h (i : Init) (data : Word) (s : State) : Host.Outcome State Fault Refusal :=
  .next (s.writeRow i 0x1650 (data ||| 1))

/-- `CHECKIN`: by an initiator, or by the resident supervisor, which checks in no task once it has taken an unclaimed exception
(R389, R397). -/
def State.checkInRow (s : State) (i : Init) (sup : Bool) (tasks : Word) : State :=
  if sup then (if s.core.trapped || !s.coreRuns then s else s.writeRow .core 0x730 tasks) else s.writeRow i 0x730 tasks

def execWdgCheckin (i : Init) (sup : Bool) (tasks : Word) (s : State) : Host.Outcome State Fault Refusal :=
  .next (s.checkInRow i sup tasks)

def execWdgLock (i : Init) (data : Word) (s : State) : Host.Outcome State Fault Refusal :=
  .next (s.writeRow i 0x72C (data ||| 1))

def execCapstatRearm (i : Init) (data : Word) (s : State) : Host.Outcome State Fault Refusal :=
  .next (s.writeRow i 0x748 (data ||| 1))

def execDbgNonce (i : Init) (data : Word) (s : State) : Host.Outcome State Fault Refusal :=
  .next (s.writeRow i 0x1734 (data ||| 1))

/-- `DBG_RESP`: the write of `RESPH` that ends an attempt (R408). -/
def execDbgResp (i : Init) (data : Word) (s : State) : Host.Outcome State Fault Refusal := .next (s.writeRow i 0x1730 data)

def execDbgRelock (i : Init) (data : Word) (s : State) : Host.Outcome State Fault Refusal :=
  .next (s.writeRow i 0x1734 (data ||| 2))

/-! ### Event recorder and OTP -/

def execRecFlush (i : Init) (data : Word) (s : State) : Host.Outcome State Fault Refusal := .next (s.writeRow i 0x84C (data ||| 1))

def execRecHdr (i : Init) (data : Word) (s : State) : Host.Outcome State Fault Refusal := .next (s.writeRow i 0x84C (data ||| 2))

def execStoreRead (i : Init) (data : Word) (s : State) : Host.Outcome State Fault Refusal := .next (s.writeRow i 0x858 (data ||| 1))

def execStoreWrite (i : Init) (data : Word) (s : State) : Host.Outcome State Fault Refusal := .next (s.writeRow i 0x858 (data ||| 2))

def execClrNonce (i : Init) (data : Word) (s : State) : Host.Outcome State Fault Refusal := .next (s.writeRow i 0x8B0 (data ||| 1))

/-- `CLR_RESP`: the low word, then the high word that ends the attempt (R427). -/
def execClrResp (i : Init) (lo : Word) (hi : Word) (s : State) : Host.Outcome State Fault Refusal :=
  .next ((s.writeRow i 0x8A8 lo).writeRow i 0x8AC hi)

def execOtpRead (i : Init) (data : Word) (s : State) : Host.Outcome State Fault Refusal := .next (s.writeRow i 0x620 data)

/-- A write of `OTP.PGMCMD` while VQPS is in its window or not (R442, R443). -/
def State.otpRow (s : State) (i : Init) (vqps : Bool) (v : Nat) : State :=
  { s with pins := { s.pins with vqps := vqps } }.writeRow i 0x634 (wordOf v)

def execOtpProgram (i : Init) (key : Byte) (vqps : Bool) (s : State) : Host.Outcome State Fault Refusal :=
  .next (s.otpRow i vqps (key.toNat * 2 ^ 24 + 1))

def execOtpFinalise (i : Init) (key : Byte) (region : BitVec 3) (vqps : Bool) (s : State) : Host.Outcome State Fault Refusal :=
  .next (s.otpRow i vqps (key.toNat * 2 ^ 24 + region.toNat * 16 + 2))

def execOtpLife (i : Init) (key : Byte) (target : BitVec 3) (vqps : Bool) (s : State) : Host.Outcome State Fault Refusal :=
  .next (s.otpRow i vqps (key.toNat * 2 ^ 24 + target.toNat * 256 + 3))

/-- `APPLY`: the link table is taken into force (R496). -/
def execTabApply (i : Init) (data : Word) (s : State) : Host.Outcome State Fault Refusal :=
  .next (s.writeRow i (tabBase + 0x1C) data)

def execPtimeRead (i : Init) (s : State) : Host.Outcome State Fault Refusal := .next (s.readRow i 0x1530)

/-! ### Plinth domain (R452, R455 to R459, R463) -/

/-- A software command of the RTC page by an initiator. -/
def State.rtcRow (s : State) (i : Init) (a : Nat) (v : Word) (cycles : Nat) : State :=
  (s.ordered i a).rtcWrite a v cycles

def execRtcLoad (i : Init) (cycles : Nat) (s : State) : Host.Outcome State Fault Refusal :=
  .next (s.rtcRow i 0x934 1 cycles)

def execRtcShift (i : Init) (cycles : Nat) (s : State) : Host.Outcome State Fault Refusal :=
  .next (s.rtcRow i 0x934 2 cycles)

def execRtcSnap (i : Init) (cycles : Nat) (s : State) : Host.Outcome State Fault Refusal :=
  .next (s.rtcRow i 0x934 4 cycles)

def execRtcArm (i : Init) (cycles : Nat) (s : State) : Host.Outcome State Fault Refusal :=
  .next (s.rtcRow i 0x934 8 cycles)

def execRtcPop (i : Init) (inputs : BitVec 4) (cycles : Nat) (s : State) : Host.Outcome State Fault Refusal :=
  .next (s.rtcRow i 0x934 (BitVec.ofNat 32 (inputs.toNat * 256)) cycles)

def execRtcAlarmWrite (i : Init) (high : Bool) (data : Word) (cycles : Nat) (s : State) : Host.Outcome State Fault Refusal :=
  .next (s.rtcRow i (if high then 0x944 else 0x940) data cycles)

def execTlostClear (i : Init) (cycles : Nat) (s : State) : Host.Outcome State Fault Refusal :=
  .next (s.rtcRow i 0x94C 1 cycles)

def execRtcCalRead (i : Init) (reg : Fin 3) (s : State) : Host.Outcome State Fault Refusal :=
  .next (s.readRow i (if reg.val = 0 then 0x924 else if reg.val = 1 then 0x95C else 0x964))

/-! ### Links and plant time -/

/-- A write of `ULKx.PCTL` with EN as given (R480). -/
def State.portRow (s : State) (i : Init) (x : Nat) (en : Bool) : State :=
  let a := pageULK x * 256 + 8
  let s := s.ordered i a
  s.writeNow i a (wordOf (putBits (putBits (s.regWord a).toNat 0 1 (if en then 1 else 0)) 4 1 0))

def execUlkEnable (i : Init) (port : Fin 4) (s : State) : Host.Outcome State Fault Refusal := .next (s.portRow i port.val true)

def execUlkDisable (i : Init) (port : Fin 4) (s : State) : Host.Outcome State Fault Refusal := .next (s.portRow i port.val false)

def execUlkCntclr (i : Init) (port : Fin 4) (data : Word) (s : State) : Host.Outcome State Fault Refusal :=
  .next (s.writeRow i (pageULK port.val * 256 + 0x48) data)

def execPtmStep (i : Init) (s : State) : Host.Outcome State Fault Refusal := .next (s.writeRow i 0x1528 1)

def execPtmAcq (i : Init) (s : State) : Host.Outcome State Fault Refusal := .next (s.writeRow i 0x1528 2)

def execPtmSett (i : Init) (s : State) : Host.Outcome State Fault Refusal := .next (s.writeRow i 0x1528 4)

def execBarSend (i : Init) (s : State) : Host.Outcome State Fault Refusal := .next (s.writeRow i 0x1574 1)

end Sys2Proof.Machine
end

