-- ==== Sys2Proof/Machine/Commit.lean ====
section
/-!
DEFINITION. Sys2Proof/Machine/Commit.lean: armed commits at a frame boundary: grouping, values, tags, and what the values set off
(chapters 05, 07 and 09).
-/

namespace Sys2Proof.Machine

/-! ### The candidate grouping (R15, R16, R164) -/

/-- The scan of R164: lanes decided so far with their leads and width codes, the present group, and whether R15 and R164 hold. -/
structure GroupScan where
  ents : List (Nat × Nat × Nat)
  lead : Nat
  stop : Nat
  code : Nat
  ok : Bool
  deriving DecidableEq, Repr

/-- One lane of the scan: a follower of the present group, or the lead of the next one. -/
def GroupScan.lane (lanes : Nat) (w : Nat → Nat) (g : GroupScan) (n : Nat) : GroupScan :=
  if n < g.stop then { g with ents := g.ents ++ [(n, g.lead, g.code)], ok := g.ok && w n == 0 }
  else
    let k := 2 ^ w n
    if n % k = 0 ∧ n + k ≤ lanes then ⟨g.ents ++ [(n, n, w n)], n, n + k, w n, g.ok⟩
    else ⟨g.ents ++ [(n, n, 0)], n, n + 1, 0, false⟩

/-- The grouping that width codes give the first `lanes` lanes. -/
def scanGroups (lanes : Nat) (w : Nat → Nat) : GroupScan :=
  (List.range lanes).foldl (GroupScan.lane lanes w) ⟨[], 0, 0, 0, true⟩

/-! ### A new grouping (R165, R218, R285, R294, R340) -/

/-- The channel-level registers of a page take their reset values (R165). -/
def State.chanRegsReset (s : State) (n : Nat) : State :=
  let keep (a : Nat) : Bool := !(inPage (pageLANE n) a && chanOff (a % 256))
  { s with regs := sparseKeep keep s.regs, stage := sparseKeep keep s.stage }

/-- A lane takes its place in a new grouping and loses its shed mark. -/
def State.regroupLane (s : State) (e : Nat × Nat × Nat) : State :=
  let (n, lead, code) := e
  let s := ((s.put (LANE_LSTAT_LEADLN n) lead).put (LANE_LSTAT_W n) code).putB (LANE_LSTAT_SHED n) false
  let s := s.modLane n (fun x => { x with
    st := if x.st = .shed then .safe else x.st
    chan := Chan.reset
    meas := { x.meas with qAcc := 0, eAcc := 0 } })
  if n = lead then (s.putB (LANE_CHSTAT_DERATED n) false).estClear n
  else (s.chanRegsReset n).modLane n (fun x => { x with
    eng := Eng.reset, chg := Chg.reset, est := Est.reset, swp := Sweep.reset })

/-- The lanes that a candidate grouping changes. -/
def State.touched (s : State) (g : GroupScan) : List (Nat × Nat × Nat) :=
  g.ents.filter (fun e => s.leadOf e.1 != e.2.1 || s.get (LANE_LSTAT_W e.1) != e.2.2)

/-- A grouping takes effect. -/
def State.regroup (s : State) (ch : List (Nat × Nat × Nat)) : State :=
  let s := ch.foldl State.regroupLane s
  (ch.filter (fun e => e.1 == e.2.1)).foldl (fun t e => t.reportRestart e.1) s

/-! ### Values and tags (R114, R115, R116) -/

/-- The armed value of a register; the latest arming counts. -/
def armedVal (vals : List (Nat × Word)) (a : Nat) : Option Word := (vals.reverse.find? (fun e => e.1 == a)).map (fun e => e.2)

/-- An armed value takes effect; a `GROUP` value of a refused grouping does not (R16).  A value staged since the arming stays staged. -/
def State.applyVal (rej : Bool) (s : State) (e : Nat × Word) : State :=
  let a := e.1
  let s := match s.staged a with
    | some x => if x.armed then s.setStaged a none else s
    | none => s
  if (rej && 0x4000 ≤ a && a % 256 == 0x50) || s.hidden a then s
  else
    let m := wordOf (rowOf a).rws
    s.wr a ((s.rd a &&& ~~~m) ||| (e.2 &&& m))

/-- The pages that a commit covers. -/
def State.armPages (s : State) (x : Arm) : List Nat :=
  ((List.range 0x19).filter (fun p => x.dev && s.present p) ++ (laneNos.filter (fun n => x.lanes.testBit n)).map (0x40 + ·)).filter
    (fun p => !x.dropped.contains p)

/-- The covered pages take the tag of a commit. -/
def State.tagPages (s : State) (x : Arm) : State :=
  let ps := s.armPages x
  if ps.isEmpty then s
  else ((ps.foldl (fun t p => t.put ⟨p * 256 + 0x1C, 16, 8⟩ x.tag) s).put SYS_CSTAT_LASTTAG x.tag).ev pageSYS 4

/-! ### What values set off (R165, R175, R232, R245, R294) -/

/-- Offsets of MODE, SETPT and SLEW in a LANE page. -/
def targetOff (off : Nat) : Bool := 0x70 ≤ off && off ≤ 0x78

/-- A running program takes note of committed values in fields that it owns (R232, R248). -/
def State.engCommit (s : State) (l : Nat) (offs : List Nat) : State :=
  let own := offs.filter (fun o => 0x70 ≤ o && o ≤ 0x80)
  let t := s.targetsNow l
  let has (o : Nat) : Bool := own.contains o
  if own.isEmpty || !(s.eng l).st.running then s
  else s.modEng l (fun e => { e with
    hostCm := own
    held := e.held ++ own
    base := { e.base with
      clmpH := if has 0x80 then t.clmpH else e.base.clmpH, clmpL := if has 0x80 then t.clmpL else e.base.clmpL
      limC := if has 0x7C then t.limC else e.base.limC, limD := if has 0x7C then t.limD else e.base.limD }
    pauseT := { e.pauseT with
      mode := if has 0x70 then t.mode else e.pauseT.mode, setpt := if has 0x74 then t.setpt else e.pauseT.setpt
      slew := if has 0x78 then t.slew else e.pauseT.slew } })

/-- RUN and CMD of a lead's page apply, last of all (R165, R168, R245). -/
def State.startCommit (s : State) (l : Nat) (offs : List Nat) : State :=
  let s := if offs.contains 0x6C then (if s.flag (LANE_CHCTL_RUN l) then s.runOne l else s.hostRunZero l) else s
  if offs.contains 0xA0 then s.command l (s.get (LANE_RCTL_CMD l)) else s

/-- The channel's target begins a transition at this boundary (R175): with a new mode or not. -/
def State.retargetNow (s : State) (e : Nat × Bool) : State :=
  let s := (s.retarget e.1 e.2).markWindow e.1 128
  if (s.lane e.1).chan.tgt = s.setptFine e.1 then s.slewDone e.1 else s

/-- The armed commits take effect (R114, R165); the result names the leads whose targets begin a transition. -/
def State.commitFrame (s : State) : State × List (Nat × Bool) :=
  if s.arms.isEmpty then (s, [])
  else
    let arms := s.arms
    let s := { s with arms := [] }
    let mask := arms.foldl (fun x a => x ||| a.lanes) 0
    let vals := arms.flatMap (fun a => a.vals)
    let wNow (n : Nat) : Nat := s.get (LANE_GROUP_W n)
    let w (n : Nat) : Nat := match armedVal vals (LANE_GROUP_W n).addr with
      | some v => v.toNat % 4
      | none => wNow n
    let g := scanGroups s.shadow.lanes w
    let ch := s.touched g
    let rej := !g.ok || ch.any (fun e => (s.lane e.1).st != .safe && (s.lane e.1).st != .shed)
    let was := s.leads.map (fun l => (l, s.flag (LANE_ESTCFG_EN l), s.get (LANE_ESTCFG_TBL l), s.get (LANE_MODE_MODE l)))
    let s := if rej then
        (match laneNos.find? (fun n => mask.testBit n) with
          | some n => s.ev (pageLANE n) 0
          | none => s)
      else s.regroup ch
    let s := vals.foldl (State.applyVal rej) s
    let s := arms.foldl State.tagPages s
    let s := if arms.any (fun a => a.dev) && s.flag RCP_ESTAT_EPEND then s.editCopy else s
    let s := was.foldl (fun t e =>
      let en := t.flag (LANE_ESTCFG_EN e.1)
      if t.isLead e.1 && ((e.2.1 && !en) || t.get (LANE_ESTCFG_TBL e.1) != e.2.2.1) then t.estClear e.1 else t) s
    let offs (l : Nat) : List Nat := (vals.filter (fun e => inPage (pageLANE l) e.1)).map (fun e => e.1 % 256)
    let ls := s.leads.filter (fun l => !(offs l).isEmpty)
    let s := ls.foldl (fun t l => t.engCommit l (offs l)) s
    let re := (ls.filter (fun l => (offs l).contains 0x70 || (offs l).contains 0x74)).map (fun l =>
      (l, was.all (fun e => e.1 != l || e.2.2.2 != s.get (LANE_MODE_MODE l))))
    (ls.foldl (fun t l => t.startCommit l (offs l)) s, re)

end Sys2Proof.Machine
end

