-- ==== Sys2Proof/Machine/Frame.lean ====
section
/-!
DEFINITION. Sys2Proof/Machine/Frame.lean: the passing of CLK_SYS cycles and the frame-scheduled work of R20.

`State.frameBoundary` is cycles 0 to 999 of a frame, `State.grantCycle` cycle 1,000 and what follows it.
-/

namespace Sys2Proof.Machine

/-! ### CLK_SYS cycles -/

/-- Operating time advances by `ns` (R418): `OPTIME` in s and `PCYC.OPFRAC` in 1/256 s. -/
def State.opAdvance (s : State) (ns : Nat) : State :=
  let t := s.evr.opNs + ns
  let f := s.get REC_PCYC_OPFRAC + t / 3906250
  let s := { s with evr := { s.evr with opNs := t % 3906250 } }
  if t < 3906250 then s
  else (s.put REC_PCYC_OPFRAC (f % 256)).put REC_OPTIME_S (s.get REC_OPTIME_S + f / 256)

/-- `n` CLK_SYS cycles pass: waiting records are written (R416), and PTIME (R517), MTIME (R388), operating time and the watchdog's
count (R396) advance. -/
def State.cycles (s : State) (n : Nat) : State :=
  let s := s.recordsOut n
  let s := { s with time := { ptime := s.time.ptime + 5 * n, cyc := (s.time.cyc + n) % 2000, loc := s.time.loc + 5 * n } }
  let s := (s.mtimeAdvance n).opAdvance (5 * n)
  if s.wdgLive then s.wdgAdvance n else s

/-- The present cycle waits for a command: a boundary for `FRAME_BOUNDARY`, cycle 1,000 of a frame in hand for `GRANT_APPLY`. -/
def State.awaits (s : State) : Bool :=
  s.clk.due || s.time.cyc == 1999 || (s.clk.open_ && s.time.cyc == 1000)

/-- One CLK_SYS cycle of an idle block. -/
def State.tick (s : State) : State :=
  if s.running && !s.flag CLK_STAT_RELOCKING && !s.awaits then s.cycles 1 else s

/-! ### Cycle 0 (R20, R22, R86, R93, R114, R239, R528) -/

/-- A release that `RCP.BARREL` asked for (R239, R528). -/
def State.barrelNow (s : State) (g : Nat) : State :=
  ((s.put PTM_LASTBAR_BGRP g).put PTM_LASTBARF_FRAME s.frame).releaseGroup g

/-- The releases of this boundary act together, before committed values (R22, R116). -/
def State.releases (s : State) : State :=
  let gs := s.rel
  let s := gs.foldl State.barrelNow { s with rel := [] }
  s.barReleases s.time.loc s.frame

/-- A watchdog expiry of the frame before gives channels their loss-of-control cause (R401). -/
def State.wdgLoc (s : State) : State :=
  if s.wdg.loc then (s.modWdg (fun w => { w with loc := false })).lossOfControlAll else s

/-- What a program holds of earlier commits at a new boundary: MODE, SETPT and SLEW, until its next step entry (R232). -/
def State.heldFrame (s : State) (l : Nat) : State :=
  s.modEng l (fun e => { e with hostCm := [], held := e.held.filter targetOff })

/-- Cycle 0 before the commits: stops that completed, plant-time steps, the report period, resets and modes. -/
def State.boundaryHead (s : State) : State :=
  let s := s.leads.foldl State.sweepHead (s.leads.foldl State.heldFrame s.reportMarks)
  let s := s.leads.foldl State.seedFrame s
  let s := s.leads.foldl State.stopFinish s
  ((s.ptStepNow.wdgLoc.periodDue).chanResetFrame).modeFrame

/-- Cycle 0 from the releases on, and the leads whose targets begin a transition. -/
def State.boundaryTail (s : State) : State × List (Nat × Bool) :=
  let (s, re) := s.releases.commitFrame
  ((((s.ptFrame.bandFrame).levelFrame).levelUpdate).periodNext, re)

/-! ### Cycles 0 to 99 (R192 to R218, R366, R496) -/

/-- The control samples of one lane, with its range, clipping and counts. -/
def State.sampleLane (x : FrameIn) (s : State) (l : Nat) : State :=
  let s := ((s.latchLane x l).clipFrame x l).rangeFrame l (laneIn x l).peak
  s.laneRoll l

/-- Samples, ramps and matching sums, accumulators, precision samples and temperatures. -/
def State.sampleFrame (s : State) (x : FrameIn) : State :=
  let f := s.frame
  let s := s.leads.foldl (fun t l => t.prateUp l f) s
  let s := s.enabledLanes.foldl (fun t l => t.modLane l (fun y => { y with meas := y.meas.markStep })) s
  let s := s.enabledLanes.foldl (State.sampleLane x) s
  let s := (spareNos.filter (fun k => s.enabled (8 * k))).foldl (fun t k => (t.matchFrame x k).clipSpare x k) s
  let s := s.rampFrame
  let s := ((s.leads.foldl State.accumulate s).wr 0xC80 0).wr 0xC84 0
  let s := s.enabledLanes.foldl (fun t l => t.precision l f) s
  let s := s.leads.foldl (fun t l => t.prateDown l f) s
  (s.enabledLanes.foldl (fun t l => (t.thermistor l f (laneIn x l).th.toNat).prateShow l) s).thermistorSeen f

/-- The blocks outside the channels at a boundary: lock loops, the modulation reference, the EFU's means, the link's status. -/
def State.blockFrame (s : State) : State :=
  ((s.enabledLanes.foldl State.fllUpdate s).mrefFrame.efuFrame).linkStatus

/-! ### Cycles 100 to 399 (R182 to R186, R240, R273, R275) -/

/-- A lane's count of samples too far from V_CELL (R275). -/
def State.followerCount (s : State) (n : Nat) : State :=
  let run := s.followerRun n
  s.modLane n (fun y => { y with health := { y.health with clRun := run } })

/-- The lanes that the frame's checks find without contact (R273, R275). -/
def State.contactless (s : State) (x : FrameIn) : List Nat :=
  s.enabledLanes.filter (fun n => s.contactFrame n (laneIn x n).csnLo (laneIn x n).csnHi || decide (2 ≤ (s.lane n).health.clRun))

/-- Every lane is judged before any is declared lost. -/
def State.contactCheck (s : State) (x : FrameIn) : State :=
  let s := s.enabledLanes.foldl State.followerCount s
  s.contactDeclare (s.contactless x)

/-- Phase health counts of every lane, and the causes found (R185). -/
def State.phaseCauses (s : State) : State × List (Nat × Nat) :=
  s.enabledLanes.foldl (fun (acc : State × List (Nat × Nat)) n =>
    let t := acc.1
    let r := t.phaseCheck n (t.servedByFault n) (t.servedByFault (64 + t.leadOf n))
    (r.1, if r.2 = 0 then acc.2 else acc.2 ++ [(n, r.2)])) (s, [])

/-- A phase fault found by the check of this frame: only recorded where the channel has been forced to SAFE meanwhile (R186, R188). -/
def State.phaseAct (s : State) (e : Nat × Nat) : State :=
  let lead := s.leadOf e.1
  if (s.lane lead).chan.st = .safe then s.phaseMark e.1 e.2
  else s.phaseFault e.1 e.2 (e.2 == 6 && s.servedByFault (64 + lead))

/-- The protection checks of a frame, and the stops they judge.  Contact loss, whose cause value is the lowest, acts first of the
paths of this cycle (R350). -/
def State.checkFrame (s : State) (x : FrameIn) : State :=
  let (s, causes) := s.phaseCauses
  let s := s.leads.foldl State.protectMark s
  let s := (s.contactCheck x)
  let s := s.leads.foldl State.protect s
  let s := causes.foldl State.phaseAct s
  s.leads.foldl State.stopCheck s

/-- One engine's evaluation, with the control samples it averages over (R240), and its sweep. -/
def State.engineFrame (s : State) (l : Nat) : State :=
  let p := (s.vCell l, s.iCh l)
  ((s.modEng l (fun e => { e with hist := (p :: e.hist).take 255 })).evaluate l).sweepFrame l

/-! ### The frame -/

/-- What the device does from cycle `c` of a frame on, stamped with that cycle's PTIME (R20); records of earlier cycles have been written
(R416). -/
def State.atCycle (s : State) (c : Nat) (f : State → State) : State :=
  let s := s.recordsOut c
  let t := s.time
  { f { s with time := { t with ptime := t.ptime + 5 * c, cyc := c, loc := t.loc + 5 * c } } with time := t }

/-- One channel's demand (R172 to R175, R320, R323). -/
def State.loopFrame (s : State) (l : Nat) : State :=
  let s := s.sweepBase l
  s.outerLoop l (s.tone l)

/-- Cycles 0 to 999 after the mode has been decided. -/
def State.frameWork (s : State) (x : FrameIn) : State :=
  let (s, re) := s.boundaryTail
  let s := ((s.enabledLanes.foldl (State.pauseLane x.bstLow.toNat) s).blockFrame).sampleFrame x
  let s := re.foldl State.retargetNow s
  let s := s.atCycle 100 (fun s => s.leads.foldl State.engineFrame (s.checkFrame x))
  let s := s.atCycle 400 (fun s => s.leads.foldl State.loopFrame s)
  let s := x.vbs.foldl (fun t e => t.atCycle e.cycle.val (fun t => t.vbsSample e.bank.val e.code.toNat)) s
  let s := s.atCycle 800 State.allocate
  s.leads.foldl State.integrate s

/-- The frame count moves on: the rest of the frame passes, and the work of the frame that begins is to come (R19, R20). -/
def State.frameBegins (s : State) : State :=
  (s.cycles (if s.clk.due then 0 else 2000 - s.time.cyc)).modClk (fun c => { c with due := false, open_ := true })

/-- The boundary at which DEEP_SLEEP is entered: what acts at it acts, and CLK_SYS stops (R92, R114). -/
def State.sleepFrame (s : State) : State := (s.releases.commitFrame).1.sleepClock

/-- The boundary that follows has come, its work still to be done, and the frame before it is over. -/
def State.toBoundary (s : State) : State :=
  if s.clk.due then s else (s.cycles (2000 - s.time.cyc)).modClk (fun c => { c with due := true, open_ := false })

/-- `REPORT_PERIOD_END` and `TLM_LINK_ABANDON`: the boundary that follows is where the present period ends, because its half is free,
or because it has waited for `LATEMAX` (R338); `FRAME_BOUNDARY` then goes on from that boundary. -/
def State.periodBoundary (s : State) (late : Bool) : State :=
  let b := s.toBoundary.reportMarks
  if s.running && !s.flag CLK_STAT_RELOCKING && (if late then b.periodOverdue else b.periodReady) then b.periodDue else s

def execReportPeriodEnd (s : State) : Host.Outcome State Fault Refusal := .next (s.periodBoundary false)

def execTlmLinkAbandon (s : State) : Host.Outcome State Fault Refusal := .next (s.periodBoundary true)

/-- `PT_STEP`: the boundary that follows is where the waiting step acts (R525); `FRAME_BOUNDARY` goes on from it. -/
def State.stepBoundary (s : State) : State :=
  if s.running && !s.flag CLK_STAT_RELOCKING && s.ptm.step.isSome then s.toBoundary.ptStepNow else s

def execPtStep (s : State) : Host.Outcome State Fault Refusal := .next s.stepBoundary

/-- `BARRIER_RELEASE`: the boundary that follows is where pending releases act (R528), a waiting step first (R532); `FRAME_BOUNDARY` goes on
from it. -/
def State.barrierBoundary (s : State) : State :=
  let b := s.toBoundary.ptStepNow
  if s.running && !s.flag CLK_STAT_RELOCKING && b.ptm.bars.any (fun r => barDue r b.time.loc b.frame) then
    b.barReleases b.time.loc b.frame
  else s

def execBarrierRelease (s : State) : Host.Outcome State Fault Refusal := .next s.barrierBoundary

/-- `FRAME_BOUNDARY`: the rest of the frame before passes, and cycles 0 to 999 of the next run (R20); no frame passes while CLK_SYS
stands (R78, R92, R517). -/
def State.frameBoundary (s : State) (x : FrameIn) : State :=
  if !s.running || s.flag CLK_STAT_RELOCKING then s
  else
    let s := s.frameBegins.boundaryHead
    if s.mode = .deepSleep then s.sleepFrame
    else if s.running then s.frameWork x else s

def execFrameBoundary (x : FrameIn) (s : State) : Host.Outcome State Fault Refusal := .next (s.frameBoundary x)

/-- A host write of `LANE[l].CAP` in the cycle of an update (R308). -/
def capWrite (ws : List (LaneNo × Word)) (l : Nat) : Option Word := (ws.find? (fun e => e.1.val == l)).map (fun e => e.2)

/-- `GRANT_APPLY`: cycle 1,000, once a frame, and the work of cycles 1,000 to 1,999 (R20). -/
def State.grantCycle (s : State) (x : GrantIn) : State :=
  if !s.running || s.flag CLK_STAT_RELOCKING || !s.clk.open_ || decide (1000 < s.time.cyc) then s
  else
    let s := (s.cycles (1001 - s.time.cyc)).modClk (fun c => { c with open_ := false })
    let s := s.leads.foldl (fun t l => t.grantApply l x.bstLow.toNat) s
    let s := s.leads.foldl (fun t l => t.estFrame l (capWrite x.capWrites l)) s
    let s := s.enabledLanes.foldl State.loadVref s
    let s := x.capWrites.foldl (fun t e => t.writeWord .host (LANE_CAP_CAP e.1.val).addr e.2) s
    (s.leads.foldl State.sweepAccumulate s).telemetryFrame

def execGrantApply (x : GrantIn) (s : State) : Host.Outcome State Fault Refusal := .next (s.grantCycle x)

end Sys2Proof.Machine
end

