-- ==== Sys2Proof/Machine/Dispatch.lean ====
section
/-!
DEFINITION. Sys2Proof/Machine/Dispatch.lean: one arm per command; each calls that command's own meaning.
-/

namespace Sys2Proof.Machine

def exec (i : Instr) (s : State) : Host.Outcome State Fault Refusal :=
  match i with
  | .frameBoundary x => Sys2Proof.Machine.execFrameBoundary x s
  | .grantApply x => Sys2Proof.Machine.execGrantApply x s
  | .contactLost x => Sys2Proof.Machine.execContactLost x s
  | .safeNAssert => Sys2Proof.Machine.execSafeNAssert s
  | .safeNRelease => Sys2Proof.Machine.execSafeNRelease s
  | .ocLimit x => Sys2Proof.Machine.execOcLimit x s
  | .bankUv bank => Sys2Proof.Machine.execBankUv bank s
  | .bankUvRecover bank => Sys2Proof.Machine.execBankUvRecover bank s
  | .switchTrigger lane trip bstLow lock => Sys2Proof.Machine.execSwitchTrigger lane trip bstLow lock s
  | .onTimeEnd lane bstLow lock => Sys2Proof.Machine.execOnTimeEnd lane bstLow lock s
  | .missingTrigger lane => Sys2Proof.Machine.execMissingTrigger lane s
  | .bstPrechargeEnd lane => Sys2Proof.Machine.execBstPrechargeEnd lane s
  | .vbsSample bank code => Sys2Proof.Machine.execVbsSample bank code s
  | .rangeUpSwitch lane => Sys2Proof.Machine.execRangeUpSwitch lane s
  | .syncEdge high low taps => Sys2Proof.Machine.execSyncEdge high low taps s
  | .syncLost => Sys2Proof.Machine.execSyncLost s
  | .mrefAcq ini => Sys2Proof.Machine.execMrefAcq ini s
  | .mrefSyncenClear ini glide => Sys2Proof.Machine.execMrefSyncenClear ini glide s
  | .isosetElapsed x => Sys2Proof.Machine.execIsosetElapsed x s
  | .holdtElapsed lane => Sys2Proof.Machine.execHoldtElapsed lane s
  | .locclr ini lane => Sys2Proof.Machine.execLocclr ini lane s
  | .shedclr ini lane => Sys2Proof.Machine.execShedclr ini lane s
  | .supSample uv limits => Sys2Proof.Machine.execSupSample uv limits s
  | .supCntclr ini data => Sys2Proof.Machine.execSupCntclr ini data s
  | .powerOn vbakOk => Sys2Proof.Machine.execPowerOn vbakOk s
  | .intStepDone => Sys2Proof.Machine.execIntStepDone s
  | .intStepTimeout => Sys2Proof.Machine.execIntStepTimeout s
  | .intDownDone => Sys2Proof.Machine.execIntDownDone s
  | .psqOnRequest ini => Sys2Proof.Machine.execPsqOnRequest ini s
  | .psqOffRequest ini => Sys2Proof.Machine.execPsqOffRequest ini s
  | .extUpStepDone => Sys2Proof.Machine.execExtUpStepDone s
  | .extUpTimeout => Sys2Proof.Machine.execExtUpTimeout s
  | .extDownStepDone => Sys2Proof.Machine.execExtDownStepDone s
  | .minoffDone => Sys2Proof.Machine.execMinoffDone s
  | .powerFail => Sys2Proof.Machine.execPowerFail s
  | .lastGaspComplete vinBack stored => Sys2Proof.Machine.execLastGaspComplete vinBack stored s
  | .vinUvlo => Sys2Proof.Machine.execVinUvlo s
  | .clkMonitorWindow refCount sysCount => Sys2Proof.Machine.execClkMonitorWindow refCount sysCount s
  | .pllLockRetry x => Sys2Proof.Machine.execPllLockRetry x s
  | .holdExp => Sys2Proof.Machine.execHoldExp s
  | .clkRelock ini => Sys2Proof.Machine.execClkRelock ini s
  | .clkRelockDone => Sys2Proof.Machine.execClkRelockDone s
  | .rstPort ini sel key => Sys2Proof.Machine.execRstPort ini sel key s
  | .rstChan ini key => Sys2Proof.Machine.execRstChan ini key s
  | .rstCore ini key => Sys2Proof.Machine.execRstCore ini key s
  | .rstDevice ini key => Sys2Proof.Machine.execRstDevice ini key s
  | .resetNAssert => Sys2Proof.Machine.execResetNAssert s
  | .deviceResetRelease x => Sys2Proof.Machine.execDeviceResetRelease x s
  | .modeReqRun ini => Sys2Proof.Machine.execModeReqRun ini s
  | .modeReqStandby ini => Sys2Proof.Machine.execModeReqStandby ini s
  | .modeReqDeepSleep ini => Sys2Proof.Machine.execModeReqDeepSleep ini s
  | .wake src refOk => Sys2Proof.Machine.execWake src refOk s
  | .regWrite ini addr data => Sys2Proof.Machine.execRegWrite ini addr data s
  | .pevtClear ini page clr hw => Sys2Proof.Machine.execPevtClear ini page clr hw s
  | .pagePrst ini page => Sys2Proof.Machine.execPagePrst ini page s
  | .fence ini data => Sys2Proof.Machine.execFence ini data s
  | .commit ini data => Sys2Proof.Machine.execCommit ini data s
  | .hostNop => Sys2Proof.Machine.execHostNop s
  | .hostWr x => Sys2Proof.Machine.execHostWr x s
  | .hostRd x => Sys2Proof.Machine.execHostRd x s
  | .hostWrq x => Sys2Proof.Machine.execHostWrq x s
  | .hostRdq x => Sys2Proof.Machine.execHostRdq x s
  | .badOpcode op cut => Sys2Proof.Machine.execBadOpcode op cut s
  | .hostWriteApply unit => Sys2Proof.Machine.execHostWriteApply unit s
  | .hifCntclr ini data => Sys2Proof.Machine.execHifCntclr ini data s
  | .roveSlotStart spare => Sys2Proof.Machine.execRoveSlotStart spare s
  | .spareCalDone spare pts => Sys2Proof.Machine.execSpareCalDone spare pts s
  | .xrefReading spare raw => Sys2Proof.Machine.execXrefReading spare raw s
  | .matchWindowEnd spare => Sys2Proof.Machine.execMatchWindowEnd spare s
  | .handover spare => Sys2Proof.Machine.execHandover spare s
  | .calCoefWrite ini data => Sys2Proof.Machine.execCalCoefWrite ini data s
  | .calCoefRead ini => Sys2Proof.Machine.execCalCoefRead ini s
  | .accclr ini high lanes => Sys2Proof.Machine.execAccclr ini high lanes s
  | .qaccRead ini lane => Sys2Proof.Machine.execQaccRead ini lane s
  | .cmdStart lane => Sys2Proof.Machine.execCmdStart lane s
  | .cmdPause lane => Sys2Proof.Machine.execCmdPause lane s
  | .cmdResume lane => Sys2Proof.Machine.execCmdResume lane s
  | .cmdAbort lane => Sys2Proof.Machine.execCmdAbort lane s
  | .cmdSkip lane => Sys2Proof.Machine.execCmdSkip lane s
  | .cmdGoto lane => Sys2Proof.Machine.execCmdGoto lane s
  | .stepEnd lane step => Sys2Proof.Machine.execStepEnd lane step s
  | .stepRest lane step => Sys2Proof.Machine.execStepRest lane step s
  | .stepCc lane step => Sys2Proof.Machine.execStepCc lane step s
  | .stepCv lane step => Sys2Proof.Machine.execStepCv lane step s
  | .stepCccv lane step => Sys2Proof.Machine.execStepCccv lane step s
  | .stepCp lane step => Sys2Proof.Machine.execStepCp lane step s
  | .stepCr lane step => Sys2Proof.Machine.execStepCr lane step s
  | .stepCharge lane step => Sys2Proof.Machine.execStepCharge lane step s
  | .stepPulse lane step => Sys2Proof.Machine.execStepPulse lane step s
  | .stepEis lane step => Sys2Proof.Machine.execStepEis lane step s
  | .stepOcv lane step => Sys2Proof.Machine.execStepOcv lane step s
  | .stepLoop lane step => Sys2Proof.Machine.execStepLoop lane step s
  | .stepJumpif lane step => Sys2Proof.Machine.execStepJumpif lane step s
  | .stepBarrier lane step => Sys2Proof.Machine.execStepBarrier lane step s
  | .stepMark lane step => Sys2Proof.Machine.execStepMark lane step s
  | .stepHold lane step => Sys2Proof.Machine.execStepHold lane step s
  | .tableRecordEntry lane step => Sys2Proof.Machine.execTableRecordEntry lane step s
  | .stepTimerExpiry lane => Sys2Proof.Machine.execStepTimerExpiry lane s
  | .pulseLevelChange lane => Sys2Proof.Machine.execPulseLevelChange lane s
  | .ocvCheck lane => Sys2Proof.Machine.execOcvCheck lane s
  | .rcpBarrel ini data => Sys2Proof.Machine.execRcpBarrel ini data s
  | .rcpEcmd ini data => Sys2Proof.Machine.execRcpEcmd ini data s
  | .taperMinute lane => Sys2Proof.Machine.execTaperMinute lane s
  | .negdvSecond lane => Sys2Proof.Machine.execNegdvSecond lane s
  | .dtdtMinute lane => Sys2Proof.Machine.execDtdtMinute lane s
  | .termDone lane => Sys2Proof.Machine.execTermDone lane s
  | .phaseTimerExpiry lane => Sys2Proof.Machine.execPhaseTimerExpiry lane s
  | .restAnchor lane => Sys2Proof.Machine.execRestAnchor lane s
  | .estSeed ini data => Sys2Proof.Machine.execEstSeed ini data s
  | .tblcmd ini data => Sys2Proof.Machine.execTblcmd ini data s
  | .tableValidateDone => Sys2Proof.Machine.execTableValidateDone s
  | .capWriteback => Sys2Proof.Machine.execCapWriteback s
  | .wbreq ini data => Sys2Proof.Machine.execWbreq ini data s
  | .writebackDone r => Sys2Proof.Machine.execWritebackDone r s
  | .eisWindowClose lane => Sys2Proof.Machine.execEisWindowClose lane s
  | .eisZreRead ini => Sys2Proof.Machine.execEisZreRead ini s
  | .reportPeriodEnd => Sys2Proof.Machine.execReportPeriodEnd s
  | .tlmHalfRelease => Sys2Proof.Machine.execTlmHalfRelease s
  | .tlmLinkAbandon => Sys2Proof.Machine.execTlmLinkAbandon s
  | .tlmPkclr ini data => Sys2Proof.Machine.execTlmPkclr ini data s
  | .efuFeedEnable ini feed => Sys2Proof.Machine.execEfuFeedEnable ini feed s
  | .efuFeedDisable ini feed => Sys2Proof.Machine.execEfuFeedDisable ini feed s
  | .efuClr ini feed => Sys2Proof.Machine.execEfuClr ini feed s
  | .efuInsertDone feed => Sys2Proof.Machine.execEfuInsertDone feed s
  | .efuInputLeavesWindow feed => Sys2Proof.Machine.execEfuInputLeavesWindow feed s
  | .efuSample feed x => Sys2Proof.Machine.execEfuSample feed x s
  | .efuLimitExit feed => Sys2Proof.Machine.execEfuLimitExit feed s
  | .efuFastTrip feed => Sys2Proof.Machine.execEfuFastTrip feed s
  | .efuReverse feed => Sys2Proof.Machine.execEfuReverse feed s
  | .efuRejoin feed => Sys2Proof.Machine.execEfuRejoin feed s
  | .cpFail => Sys2Proof.Machine.execCpFail s
  | .efuRampDone feed => Sys2Proof.Machine.execEfuRampDone feed s
  | .efuRampTimeout feed => Sys2Proof.Machine.execEfuRampTimeout feed s
  | .efuInputUv feed => Sys2Proof.Machine.execEfuInputUv feed s
  | .efuOnSettled feed => Sys2Proof.Machine.execEfuOnSettled feed s
  | .efuTripEnd feed => Sys2Proof.Machine.execEfuTripEnd feed s
  | .efuRetry feed vin => Sys2Proof.Machine.execEfuRetry feed vin s
  | .efuDfet feed => Sys2Proof.Machine.execEfuDfet feed s
  | .efuCntclr ini data => Sys2Proof.Machine.execEfuCntclr ini data s
  | .efuEnergyRead ini feed => Sys2Proof.Machine.execEfuEnergyRead ini feed s
  | .thmSensorConvert sensor reading => Sys2Proof.Machine.execThmSensorConvert sensor reading s
  | .thmLevelUpdate => Sys2Proof.Machine.execThmLevelUpdate s
  | .thermalShutdown sensor => Sys2Proof.Machine.execThermalShutdown sensor s
  | .thmPkclr ini data => Sys2Proof.Machine.execThmPkclr ini data s
  | .coreStart => Sys2Proof.Machine.execCoreStart s
  | .bootGo ini data => Sys2Proof.Machine.execBootGo ini data s
  | .imageCheckDone => Sys2Proof.Machine.execImageCheckDone s
  | .coreInterrupt irq pc => Sys2Proof.Machine.execCoreInterrupt irq pc s
  | .coreTrap cause pc tval => Sys2Proof.Machine.execCoreTrap cause pc tval s
  | .coreC2h ini data => Sys2Proof.Machine.execCoreC2h ini data s
  | .mtimeRead ini => Sys2Proof.Machine.execMtimeRead ini s
  | .svcHandler a0 a1 => Sys2Proof.Machine.execSvcHandler a0 a1 s
  | .svcLinkRd q => Sys2Proof.Machine.execSvcLinkRd q s
  | .svcLinkWr q => Sys2Proof.Machine.execSvcLinkWr q s
  | .svcLinkWrn q => Sys2Proof.Machine.execSvcLinkWrn q s
  | .svcLinkFence node inHandler => Sys2Proof.Machine.execSvcLinkFence node inHandler s
  | .svcTabRead off => Sys2Proof.Machine.execSvcTabRead off s
  | .svcTabWrite off data => Sys2Proof.Machine.execSvcTabWrite off data s
  | .svcTabApply => Sys2Proof.Machine.execSvcTabApply s
  | .svcWalk ring => Sys2Proof.Machine.execSvcWalk ring s
  | .wdiToggle internal => Sys2Proof.Machine.execWdiToggle internal s
  | .wdgLate => Sys2Proof.Machine.execWdgLate s
  | .wdgCheckin ini sup tasks => Sys2Proof.Machine.execWdgCheckin ini sup tasks s
  | .wdgLock ini data => Sys2Proof.Machine.execWdgLock ini data s
  | .capstatRearm ini data => Sys2Proof.Machine.execCapstatRearm ini data s
  | .debugHalt halt => Sys2Proof.Machine.execDebugHalt halt s
  | .dbgNonce ini data => Sys2Proof.Machine.execDbgNonce ini data s
  | .dbgResp ini data => Sys2Proof.Machine.execDbgResp ini data s
  | .dbgRelock ini data => Sys2Proof.Machine.execDbgRelock ini data s
  | .recRecordWrite => Sys2Proof.Machine.execRecRecordWrite s
  | .recFlushStart => Sys2Proof.Machine.execRecFlushStart s
  | .recFlush ini data => Sys2Proof.Machine.execRecFlush ini data s
  | .recHdr ini data => Sys2Proof.Machine.execRecHdr ini data s
  | .recStoreWriteDone r => Sys2Proof.Machine.execRecStoreWriteDone r s
  | .recHeaderPeriodic => Sys2Proof.Machine.execRecHeaderPeriodic s
  | .recStoreRetry => Sys2Proof.Machine.execRecStoreRetry s
  | .recStartup wrOk => Sys2Proof.Machine.execRecStartup wrOk s
  | .storeRead ini data => Sys2Proof.Machine.execStoreRead ini data s
  | .storeWrite ini data => Sys2Proof.Machine.execStoreWrite ini data s
  | .storeAccessDone ok => Sys2Proof.Machine.execStoreAccessDone ok s
  | .clrNonce ini data => Sys2Proof.Machine.execClrNonce ini data s
  | .clrResp ini lo hi => Sys2Proof.Machine.execClrResp ini lo hi s
  | .clearCheck => Sys2Proof.Machine.execClearCheck s
  | .otpRead ini data => Sys2Proof.Machine.execOtpRead ini data s
  | .otpReadDone => Sys2Proof.Machine.execOtpReadDone s
  | .otpProgram ini key vqps => Sys2Proof.Machine.execOtpProgram ini key vqps s
  | .otpFinalise ini key region vqps => Sys2Proof.Machine.execOtpFinalise ini key region vqps s
  | .otpLife ini key target vqps => Sys2Proof.Machine.execOtpLife ini key target vqps s
  | .otpCmdDone fail => Sys2Proof.Machine.execOtpCmdDone fail s
  | .pgmAbort bit => Sys2Proof.Machine.execPgmAbort bit s
  | .plinthSupplySample vin vbak => Sys2Proof.Machine.execPlinthSupplySample vin vbak s
  | .rtcSecondCarry => Sys2Proof.Machine.execRtcSecondCarry s
  | .rtcWakePeriod => Sys2Proof.Machine.execRtcWakePeriod s
  | .evinEdge input rising held cycles => Sys2Proof.Machine.execEvinEdge input rising held cycles s
  | .rtcLoad ini cycles => Sys2Proof.Machine.execRtcLoad ini cycles s
  | .rtcShift ini cycles => Sys2Proof.Machine.execRtcShift ini cycles s
  | .rtcSnap ini cycles => Sys2Proof.Machine.execRtcSnap ini cycles s
  | .rtcArm ini cycles => Sys2Proof.Machine.execRtcArm ini cycles s
  | .rtcPop ini inputs cycles => Sys2Proof.Machine.execRtcPop ini inputs cycles s
  | .rtcAlarmWrite ini high data cycles => Sys2Proof.Machine.execRtcAlarmWrite ini high data cycles s
  | .tlostClear ini cycles => Sys2Proof.Machine.execTlostClear ini cycles s
  | .rtcCalRead ini reg => Sys2Proof.Machine.execRtcCalRead ini reg s
  | .oscStop => Sys2Proof.Machine.execOscStop s
  | .ulkEnable ini port => Sys2Proof.Machine.execUlkEnable ini port s
  | .ulkDisable ini port => Sys2Proof.Machine.execUlkDisable ini port s
  | .signalDetect port => Sys2Proof.Machine.execSignalDetect port s
  | .siglost port => Sys2Proof.Machine.execSiglost port s
  | .linkTs1 port x => Sys2Proof.Machine.execLinkTs1 port x s
  | .linkTs2 port x sent16 => Sys2Proof.Machine.execLinkTs2 port x sent16 s
  | .trainTimeout port => Sys2Proof.Machine.execTrainTimeout port s
  | .retrainTimeout port => Sys2Proof.Machine.execRetrainTimeout port s
  | .downExit port => Sys2Proof.Machine.execDownExit port s
  | .linkRetrain port err => Sys2Proof.Machine.execLinkRetrain port err s
  | .packetReceived port x => Sys2Proof.Machine.execPacketReceived port x s
  | .linkAck port x => Sys2Proof.Machine.execLinkAck port x s
  | .linkNak port x => Sys2Proof.Machine.execLinkNak port x s
  | .replayTo port => Sys2Proof.Machine.execReplayTo port s
  | .nakResend port => Sys2Proof.Machine.execNakResend port s
  | .ackTimer port => Sys2Proof.Machine.execAckTimer port s
  | .packetTransmit port ahead => Sys2Proof.Machine.execPacketTransmit port ahead s
  | .ulkCntclr ini port data => Sys2Proof.Machine.execUlkCntclr ini port data s
  | .linkRdRequest port => Sys2Proof.Machine.execLinkRdRequest port s
  | .linkWrRequest port => Sys2Proof.Machine.execLinkWrRequest port s
  | .linkWrnRequest port => Sys2Proof.Machine.execLinkWrnRequest port s
  | .linkFenceRequest port => Sys2Proof.Machine.execLinkFenceRequest port s
  | .linkBcast port => Sys2Proof.Machine.execLinkBcast port s
  | .linkSummary port => Sys2Proof.Machine.execLinkSummary port s
  | .timesyncReq port => Sys2Proof.Machine.execTimesyncReq port s
  | .timesyncRsp port => Sys2Proof.Machine.execTimesyncRsp port s
  | .barrierMessage port => Sys2Proof.Machine.execBarrierMessage port s
  | .eventMessage port => Sys2Proof.Machine.execEventMessage port s
  | .completionReceived port => Sys2Proof.Machine.execCompletionReceived port s
  | .tagTimeout port tag => Sys2Proof.Machine.execTagTimeout port tag s
  | .holdDrop port => Sys2Proof.Machine.execHoldDrop port s
  | .tabApply ini data => Sys2Proof.Machine.execTabApply ini data s
  | .summarySend => Sys2Proof.Machine.execSummarySend s
  | .summaryForward => Sys2Proof.Machine.execSummaryForward s
  | .roleClaim => Sys2Proof.Machine.execRoleClaim s
  | .claimExpire => Sys2Proof.Machine.execClaimExpire s
  | .defaultRoleAssign => Sys2Proof.Machine.execDefaultRoleAssign s
  | .ringWalkStart zone => Sys2Proof.Machine.execRingWalkStart zone s
  | .ringWalkDone => Sys2Proof.Machine.execRingWalkDone s
  | .timesyncReqSend => Sys2Proof.Machine.execTimesyncReqSend s
  | .ptLost => Sys2Proof.Machine.execPtLost s
  | .ptStep => Sys2Proof.Machine.execPtStep s
  | .ptmStep ini => Sys2Proof.Machine.execPtmStep ini s
  | .ptmAcq ini => Sys2Proof.Machine.execPtmAcq ini s
  | .ptmSett ini => Sys2Proof.Machine.execPtmSett ini s
  | .ptimeRead ini => Sys2Proof.Machine.execPtimeRead ini s
  | .barrierRelease => Sys2Proof.Machine.execBarrierRelease s
  | .barSend ini => Sys2Proof.Machine.execBarSend ini s
  | .scheduleSend => Sys2Proof.Machine.execScheduleSend s
  | .powerFailRelease => Sys2Proof.Machine.execPowerFailRelease s
  | .clearTimeout => Sys2Proof.Machine.execClearTimeout s
  | .plinthWriteEffect cycles => Sys2Proof.Machine.execPlinthWriteEffect cycles s
  | .hostPortResetEnd => Sys2Proof.Machine.execHostPortResetEnd s

end Sys2Proof.Machine
end

