-- ==== Sys2Proof/Safety.lean ====
section
/-!
DEFINITION. Sys2Proof/Safety.lean: what the statements call a sound state, and a quiet lane.
-/

namespace Sys2Proof.Machine

/-- A state that keeps the bounds and the forms of the spec: at most 32 posted host writes wait (R125), 16 releases are pending
(R529), each event input holds 4 stamps (R462) and each replay buffer 128 packets (R486); the ordering code gives 0, 16, 32 or
64 lanes (R434); the memories, the record store and the fuses are in canonical form; PTIME stands at cycle `cyc` of a frame of
10,000 ns (R517), and the trim in force is within 511 (R457). -/
structure State.Sound (s : State) : Prop where
  hostQueue : s.hif.queue.length ≤ 32
  releases : s.ptm.bars.length ≤ 16
  stamps : ∀ i, i < 4 → (s.stamps i).length ≤ 4
  replay : ∀ x, x < 4 → (s.port x).replay.length ≤ 128
  lanes : s.shadow.lanes = 0 ∨ s.shadow.lanes = 16 ∨ s.shadow.lanes = 32 ∨ s.shadow.lanes = 64
  mem : Memory.wf s.mem = true
  store : Memory.wf s.store = true
  fuses : sparseWf otpDflt s.otp = true
  frame : s.time.ptime % 10000 = 5 * s.time.cyc ∧ s.time.cyc < 2000
  trim : s.pl.calp.natAbs ≤ 511

/-- A logical OTP bit as the normal read shows it (R431). -/
def State.fuseBit (s : State) (word i : Nat) : Bool := (s.fuse word).normal.getLsbD i

/-- The registers are alive, and no earlier write of the initiator waits in the host port's queue: an access acts on the registers
as they stand (R83, R111). -/
def State.Ready (s : State) (i : Init) : Prop := s.running = true ∧ (i = .host → s.hif.queue = [])

/-- The command answers a next state, of which `q` holds. -/
def Runs (c : Instr) (s : State) (q : State → Prop) : Prop := ∃ t, exec c s = .next t ∧ q t

/-- Every register but those listed reads as before.  `SYS.PFIRST` (0x18) follows the PEVT of every page (R106, R132), so it reads as
before where no page's PEVT changed. -/
def RegsKept (s t : State) (but : List Nat) : Prop :=
  (∀ a, a ∉ but → a ≠ 0x18 → t.rd a = s.rd a) ∧ (0x18 ∉ but → (∀ p, t.pevt p = s.pevt p) → t.rd 0x18 = s.rd 0x18)

/-- Every lane but those listed is as before. -/
def LanesKept (s t : State) (but : List Nat) : Prop := ∀ n, n ∉ but → t.lane n = s.lane n

/-- Every byte of the device memories and of the record store, and every fuse, reads as before. -/
structure StoresKept (s t : State) : Prop where
  memory : ∀ a, t.byte a = s.byte a
  record : ∀ a, sparseGet memDflt t.store a = sparseGet memDflt s.store a
  fuses : ∀ w, t.fuse w = s.fuse w

/-- Both gates and the ISO output of lane `n` are low (R168, R170). -/
def State.laneDark (s : State) (n : Nat) : Prop :=
  let m := (s.lane n).modu
  m.gh = false ∧ m.gl = false ∧ m.iso = false

/-- What a port has put on its line, its SKPs aside (R476). -/
def Port.items (p : Port) : List LineItem := p.out.filter (· ≠ .skp)

/-- No lane of an enabled channel drives an output (R93, R128). -/
def State.allOff (s : State) : Prop := ∀ n, s.enabled n = true → s.laneDark n

end Sys2Proof.Machine
end

