-- ==== Sys2Proof/Certificates/Slice0/Obligations.lean ====
section
/-!
DEFINITION. Sys2Proof/Certificates/Slice0/Obligations.lean: the statements about the block.

`Runs c s q` says that the command `c` completes in `s` with a next state of which `q` holds; `RegsKept`, `LanesKept` and `StoresKept`
are the frames (Sys2Proof/Safety.lean).  A statement's docstring names the rules that its clauses come from.
-/

open Sys2Proof Sys2Proof.Machine

/-- PEVT_CLEAR on a present page completes: each PEVT bit ends 1 exactly if it was 1 and not cleared or hardware sets it in the same
cycle; PSEQ counts the write; PFIRST and the lane loss-of-control flag apart no register changes. On a page that the part lacks
it changes nothing, and where no page is the port that carried it reports the address error. HIF_CNTCLR, SUP_CNTCLR,
EFU_CNTCLR, ULK_CNTCLR, THM_PKCLR and TLM_PKCLR complete and clear what their data bits name and nothing else. (R103, R104,
R106, R130, R71, R366, R370, R374, R349, R491) -/
def Obligations.ClearingEventsAndCounters : Prop :=
  (∀ (i : Init) (s : State) (p : Byte) (clr hw : BitVec 16), s.Ready i → s.present p.toNat = true →
    Runs (.pevtClear i p clr hw) s fun t =>
      (∀ k, k < 15 → (t.pevt p.toNat).testBit k = (((s.pevt p.toNat).testBit k && !clr.getLsbD k) || hw.getLsbD k)) ∧
      (t.pevt p.toNat).testBit 15 =
        (((s.pevt p.toNat).testBit 15 && !(clr.getLsbD 15 && decide (p.toNat ≠ 0))) || hw.getLsbD 15) ∧
      t.get ⟨p.toNat * 256 + 0x1C, 0, 16⟩ = (s.get ⟨p.toNat * 256 + 0x1C, 0, 16⟩ + 1) % 65536 ∧
      RegsKept s t ([p.toNat * 256 + 0x10, p.toNat * 256 + 0x18, p.toNat * 256 + 0x1C] ++
        (if 0x40 ≤ p.toNat ∧ clr.getLsbD 1 ∧ !hw.getLsbD 1 then [p.toNat * 256 + 0x98] else [])) ∧
      LanesKept s t [] ∧ StoresKept s t) ∧
  (∀ (i : Init) (s : State) (p : Byte) (clr hw : BitVec 16), s.Ready i →
    (hasBlock p.toNat = true → s.present p.toNat = false → Runs (.pevtClear i p clr hw) s fun t => t = s) ∧
    (hasBlock p.toNat = false → Runs (.pevtClear i p clr hw) s fun t => LanesKept s t [] ∧ StoresKept s t ∧
      (match i with
        | .core => t = s
        | .u x => (t.pevt (pageULK x.val)).testBit 11 = true
        | .host => (t.pevt pageHIF).testBit 1 = true ∧ t.hif.queue = []))) ∧
  (∀ (i : Init) (s : State) (data : Word) (x : Fin 4), s.Ready i →
    Runs (.hifCntclr i data) s (fun t =>
      t.rd 0x1028 = 0 ∧ RegsKept s t [0x1028, 0x101C] ∧ LanesKept s t [] ∧ StoresKept s t) ∧
    Runs (.supCntclr i data) s (fun t =>
      (∀ k, k < 16 → t.rd (0x4A0 + 4 * k) = (if data.getLsbD k then 0 else s.rd (0x4A0 + 4 * k)) ∧
        (data.getLsbD k = true → (t.rail k).chatted = false)) ∧
      (∀ a, (∀ k, k < 16 → a ≠ 0x4A0 + 4 * k) → a ≠ 0x41C → t.rd a = s.rd a) ∧ LanesKept s t [] ∧ StoresKept s t) ∧
    Runs (.efuCntclr i data) s (fun t =>
      (∀ f, f < 2 → (data.getLsbD f = true → t.rd (EFU_FCNT_TRIPCNT f).addr = 0 ∧ t.get (EFU_FIPK_IPK f) = 0) ∧
        (data.getLsbD (2 + f) = true → (t.feed f).energy = 0)) ∧
      RegsKept s t [0xA4C, 0xA50, 0xA8C, 0xA90, 0xA1C] ∧ LanesKept s t [] ∧ StoresKept s t) ∧
    Runs (.ulkCntclr i x data) s (fun t =>
      (data.getLsbD 0 = true → ∀ k, k < 5 → t.rd (0x1134 + 256 * x.val + 4 * k) = 0) ∧
      (∀ a, (data.getLsbD 0 = true → ∀ k, k < 5 → a ≠ 0x1134 + 256 * x.val + 4 * k) → a ≠ 0x111C + 256 * x.val → t.rd a = s.rd a) ∧
      LanesKept s t [] ∧ StoresKept s t) ∧
    Runs (.thmPkclr i data) s (fun t =>
      (data.getLsbD 0 = true → t.getI THM_PEAK_T = -32768 ∧ t.get THM_PEAK_SRC = 0) ∧
      RegsKept s t [0x564, 0x51C] ∧ LanesKept s t [] ∧ StoresKept s t) ∧
    Runs (.tlmPkclr i data) s (fun t =>
      (data.getLsbD 0 = true → t.tlm.pkChan.testBit (s.get TLM_CSEL_LANE) = true) ∧
      (data.getLsbD 1 = true → t.tlm.pkAll = true) ∧ (data.getLsbD 2 = true → t.tlm.pkDev = true) ∧
      RegsKept s t [0xF1C] ∧ LanesKept s t [] ∧ StoresKept s t))

/-- REG_WRITE completes. Of a register with staged fields of a lane: the staged value takes the written bits, the active value does
not change, PSEQ counts. Of a register without: its RW bits take the written values and its W1C bits clear. Of one that takes no
write: nothing. Of recipe memory: the word is stored. Where no register is: the port reports the address error. The host's
comes after its own earlier writes to the unit. COMMIT completes: when its lane mask or DEV selects anything it arms one set, with its tag, DEV bit,
the extended lanes and exactly the staged values of those pages; otherwise nothing changes. FENCE from a link or the core leaves
the host queue; from the host it first applies the queued writes in order. (R28, R108, R109, R110, R111, R112, R113, R114, R126) -/
def Obligations.StagingCommitsAndFences : Prop :=
  (∀ (i : Init) (s : State) (l : LaneNo) (addr : BitVec 24) (v : Word),
    let a := wordAddr addr.toNat
    let m := wordOf (rowOf a).rws
    s.Ready i → s.enabled l.val = true → a / 256 = pageLANE l.val → s.hidden a = false → m ≠ 0 →
    a % 256 ≠ 0x6C →
    Runs (.regWrite i addr v) s fun t =>
      (∃ x, t.staged a = some ⟨x, false⟩ ∧ x &&& m = v &&& m) ∧ t.rd a &&& m = s.rd a &&& m ∧
      t.get ⟨pageLANE l.val * 256 + 0x1C, 0, 16⟩ = (s.get ⟨pageLANE l.val * 256 + 0x1C, 0, 16⟩ + 1) % 65536 ∧
      (∀ b, b ≠ a → t.staged b = s.staged b) ∧ RegsKept s t [a, pageLANE l.val * 256 + 0x1C] ∧
      LanesKept s t [] ∧ StoresKept s t) ∧
  (∀ (i : Init) (s : State) (addr : BitVec 24) (v : Word),
    let a := wordAddr addr.toNat
    let r := rowOf a
    let seq (t : State) : Prop := t.get ⟨a / 256 * 256 + 0x1C, 0, 16⟩ = (s.get ⟨a / 256 * 256 + 0x1C, 0, 16⟩ + 1) % 65536
    (s.Ready i → writable a = false → Runs (.regWrite i addr v) s fun t => LanesKept s t [] ∧ StoresKept s t ∧
      (match i with
        | .core => t = s
        | .u x => (t.pevt (pageULK x.val)).testBit 11 = true
        | .host => (t.pevt pageHIF).testBit 1 = true ∧ t.hif.queue = [])) ∧
    (s.Ready i → regionOf a = .pages → writable a = true → s.notApplied i a = true → Runs (.regWrite i addr v) s fun t => t = s) ∧
    (s.Ready i → regionOf a = .pages → writable a = true → s.notApplied i a = false → plinthReg a = false → a % 256 ≠ 0x10 →
      a % 256 ≠ 0x08 → s.writeEffect i a v = none → (0x40 ≤ a / 256 → a % 256 ≠ 0xC8 ∧ a % 256 ≠ 0x6C) → r.rws = 0 → a % 256 ≠ 0x1C →
      Runs (.regWrite i addr v) s fun t => seq t ∧
        t.rd a = ((s.rd a &&& ~~~(wordOf r.rw)) ||| (v &&& wordOf r.rw)) &&& ~~~(v &&& wordOf r.w1c) ∧
        RegsKept s t [a, a / 256 * 256 + 0x1C] ∧ LanesKept s t [] ∧ StoresKept s t) ∧
    (s.Ready i → regionOf a = .recipe → Runs (.regWrite i addr v) s fun t => t.memWord a = v ∧
      (∀ b, (b < a ∨ a + 4 ≤ b) → t.byte b = s.byte b) ∧ t = { s with mem := t.mem }) ∧
    (s.running = true → writable a = true →
      exec (.regWrite .host addr v) s = exec (.regWrite .host addr v) (s.catchUp (unitOf a)))) ∧
  (∀ (i : Init) (s : State) (data : Word), s.Ready i →
    let sel (l : Nat) : Prop :=
      s.enabled l = true ∧ l < 64 ∧ ∃ k ∈ s.members (s.leadOf l), s.enabled k = true ∧ (s.laneBits 0x38 0x3C).testBit k = true
    let any : Prop := (∃ l, sel l) ∨ data.getLsbD 8 = true
    Runs (.commit i data) s fun t =>
      (any → ∃ x, t.arms = s.arms ++ [x] ∧ x.tag = data.toNat % 256 ∧ x.dev = data.getLsbD 8 ∧ x.dropped = [] ∧
        (∀ l, x.lanes.testBit l = true ↔ sel l) ∧
        (∀ a v, (a, v) ∈ x.vals ↔ ∃ b, (a, some ⟨v, b⟩) ∈ s.stage ∧
          (if a < 0x4000 then data.getLsbD 8 = true ∧ s.present (a / 256) = true else sel (a / 256 - 0x40)))) ∧
      (¬any → t.arms = s.arms ∧ t.stage = s.stage) ∧
      RegsKept s t [0x1C] ∧ LanesKept s t [] ∧ StoresKept s t) ∧
  (∀ (i : Init) (s : State) (data : Word) (vs : List Word), s.Ready i →
    (i ≠ .host → Runs (.fence i data) s fun t => t.hif = s.hif ∧
      t.get ⟨0x01C, 0, 16⟩ = (s.get ⟨0x01C, 0, 16⟩ + 1) % 65536 ∧ RegsKept s t [0x01C] ∧ LanesKept s t [] ∧ StoresKept s t) ∧
    (s.hif.queue = vs.map (fun v => (0x078, v)) → Runs (.fence .host data) s fun t => t.hif.queue = [] ∧
      t.rd 0x078 = vs.getLastD (s.rd 0x078) ∧ t.get ⟨0x01C, 0, 16⟩ = (s.get ⟨0x01C, 0, 16⟩ + vs.length + 1) % 65536 ∧
      RegsKept s t [0x01C, 0x078] ∧ LanesKept s t [] ∧ StoresKept s t))

/-- For every initiator: a write of RST.CMD with another key has no effect but KEY_ERR (the events that follow a set event apart);
with the key, the PORT, CHAN, CORE and DEVICE scopes each take their reset and record its cause. (R82) -/
def Obligations.ResetCommandActsOnlyWithItsKey : Prop :=
  ∀ (i : Init) (s : State) (sel : BitVec 3) (key : Byte), s.Ready i →
    (key ≠ 0xA5 → ∀ c ∈ [Instr.rstPort i sel key, .rstChan i key, .rstCore i key, .rstDevice i key],
      Runs c s fun t => (t.pevt pageRST).testBit 0 = true ∧ RegsKept s t [0x210, 0x218, 0x21C] ∧
        t = { s with regs := t.regs, recLatches := t.recLatches, outbox := t.outbox }) ∧
    (sel = 0 → Runs (.rstPort i sel 0xA5) s fun t => t.hif.resetting = true ∧ (t.get RST_CAUSE_CAUSE).testBit 8 = true ∧
      t.get RST_LAST_CODE = 8 ∧ t.hif.queue = s.hif.queue ∧ LanesKept s t [] ∧ StoresKept s t) ∧
    Runs (.rstChan i 0xA5) s (fun t => (t.get RST_CAUSE_CAUSE).testBit 7 = true ∧ t.get RST_LAST_CODE = 7 ∧
      ∀ l ∈ s.leads, ∀ n ∈ s.members l, (s.laneBits 0x224 0x228).testBit n = true →
        ∀ k ∈ s.members l, t.rst.chanPend.testBit k = true) ∧
    Runs (.rstCore i 0xA5) s (fun t => t.core.warm = true ∧ t.core.wait = none ∧ (t.get RST_CAUSE_CAUSE).testBit 6 = true ∧
      t.get RST_LAST_CODE = 6 ∧ LanesKept s t [] ∧ StoresKept s t) ∧
    Runs (.rstDevice i 0xA5) s (fun t => t.rst.inReset = true ∧ (t.get RST_CAUSE_CAUSE).testBit 2 = true ∧
      t.get RST_LAST_CODE = 2 ∧ t.arms = [] ∧ t.stage = [] ∧ t.store = s.store ∧
      ∀ n, n < 64 → t.lane n = Lane.reset)

/-- In OFF, with an order that names some ENX output at least twice, PSQ_ON_REQUEST sets ORDER_ERR and leaves the sequencer, every
lane, every memory and every other register as they were. (R59) -/
def Obligations.OnRequestThatNamesAnOutputTwiceIsRefused : Prop :=
  ∀ (i : Init) (s : State), s.Ready i → s.psq.st = .off →
    (∃ k, k < 8 ∧ 2 ≤ s.orderList.count k) →
    Runs (.psqOnRequest i) s fun t => (t.pevt pagePSQ).testBit 5 = true ∧ t.psq = s.psq ∧
      RegsKept s t [0x310, 0x318, 0x31C] ∧ LanesKept s t [] ∧ StoresKept s t

/-- PSQ_ON_REQUEST and PSQ_OFF_REQUEST complete in each sequencer state: OFF samples the order and starts UP with its first output,
or is ON at once with an empty order; DOWN and MINOFF hold or drop the request; FAILDOWN and LATCHED refuse it; UP and ON go
down the raised outputs, last first. (R57, R58, R59, R62, R63) -/
def Obligations.PowerSequenceFollowsRequests : Prop :=
  ∀ (i : Init) (s : State), s.Ready i →
    (s.psq.st = .off → (∀ k, k < 8 → s.orderList.count k ≤ 1) → Runs (.psqOnRequest i) s fun t =>
      t.psq.order = s.orderList ∧ t.psq.pendOn = false ∧
      (s.orderList = [] → t.psq.st = .on ∧ (t.pevt pagePSQ).testBit 0 = true) ∧
      (∀ k ks, s.orderList = k :: ks → t.psq.st = .up ∧ t.psq.step = 0 ∧ t.psq.raised = [k])) ∧
    (s.psq.st = .down ∨ s.psq.st = .minoff → Runs (.psqOnRequest i) s fun t =>
      t.psq = { s.psq with pendOn := true } ∧ RegsKept s t [0x31C]) ∧
    (s.psq.st = .faildown ∨ s.psq.st = .latched → Runs (.psqOnRequest i) s fun t =>
      t.psq = s.psq ∧ (t.pevt pagePSQ).testBit 4 = true ∧ RegsKept s t [0x310, 0x318, 0x31C]) ∧
    (s.psq.st = .down ∨ s.psq.st = .minoff → Runs (.psqOffRequest i) s fun t =>
      t.psq = { s.psq with pendOn := false } ∧ RegsKept s t [0x31C]) ∧
    (s.psq.st = .up ∨ s.psq.st = .on →
      let low := if s.psq.st = .on then lowerOrder s.orderList s.psq.raised else s.psq.raised
      Runs (.psqOffRequest i) s fun t => t.psq.pendOn = false ∧ t.psq.order = (if s.psq.st = .on then s.orderList else s.psq.order) ∧
        (∀ k ks, low = k :: ks → t.psq.st = .down ∧ t.psq.raised = ks ∧ t.psq.step = ks.length ∧
          (k < 8 → (t.get PSQ_STATE_ENXLVL).testBit k = false)) ∧
        (low = [] → t.psq.st = .minoff ∧ t.psq.raised = []))

/-- MODE_REQ_RUN, _STANDBY and _DEEP_SLEEP record the request and change nothing else. CLK_RELOCK starts relocking in STANDBY and is
refused with its event elsewhere. MREF_ACQ and MREF_SYNCEN_CLEAR move the reference state as the chapter says. (R74, R77, R91,
R96, R149, R152, R153) -/
def Obligations.ModeClockAndReferenceCommandsAct : Prop :=
  (∀ (i : Init) (s : State), s.Ready i →
    ∀ p ∈ [(Instr.modeReqRun i, Mode.run, 0), (.modeReqStandby i, .standby, 1), (.modeReqDeepSleep i, .deepSleep, 2)],
      Runs p.1 s fun t => t.rst = { s.rst with modeReq := some p.2.1 } ∧ t.get SYS_MODE_REQ = p.2.2 ∧ t.mode = s.mode ∧
        RegsKept s t [0x028, 0x01C] ∧ LanesKept s t [] ∧ StoresKept s t) ∧
  (∀ (i : Init) (s : State) (g : BitVec 3), s.Ready i →
    (s.mode = .standby → Runs (.clkRelock i) s fun t => t.flag CLK_STAT_RELOCKING = true ∧ t.flag CLK_STAT_PLL_LOCK = false ∧
      t.flag CLK_STAT_DL_LOCK = false ∧ RegsKept s t [0x124, 0x11C] ∧ LanesKept s t [] ∧ StoresKept s t) ∧
    (s.mode ≠ .standby → Runs (.clkRelock i) s fun t => (t.pevt pageCLK).testBit 3 = true ∧
      RegsKept s t [0x110, 0x118, 0x11C] ∧ LanesKept s t [] ∧ StoresKept s t) ∧
    Runs (.mrefAcq i) s (fun t =>
      t.get PTM_MREFSTAT_ST = (if s.flag PTM_MREFCTL_SYNCEN ∧ (s.get PTM_MREFSTAT_ST = mrInt ∨ s.get PTM_MREFSTAT_ST = mrGlide)
        then mrAcq else s.get PTM_MREFSTAT_ST) ∧
      RegsKept s t [0x15D0, 0x151C] ∧ LanesKept s t [] ∧ StoresKept s t) ∧
    (s.get PTM_MREFSTAT_ST = mrAcq ∨ s.get PTM_MREFSTAT_ST = mrPull ∨ s.get PTM_MREFSTAT_ST = mrLocked →
      Runs (.mrefSyncenClear i g) s fun t => t.get PTM_MREFSTAT_ST = mrGlide ∧ t.flag PTM_MREFCTL_SYNCEN = false ∧
        t.get PTM_MREFCTL_GLIDE = g.toNat ∧ t.mref = s.mref ∧ RegsKept s t [0x15C0, 0x15D0, 0x151C] ∧ LanesKept s t [] ∧ StoresKept s t))

/-- PAGE_PRST refused: the SYS event and nothing of the page. Honoured on a LANE page: its events, masks, writable fields and staged
values are at reset, GROUP and every other page unchanged. LOCCLR moves HOLD to ACTIVE and a sweep settles again, SHEDCLR in SAFE returns the shed lanes,
and in other states neither changes a lane. (R29, R102, R107, R166, R171, R187, R189, R327) -/
def Obligations.PageResetsAndCausesClear : Prop :=
  (∀ (i : Init) (s : State) (p : Byte), s.Ready i → s.present p.toNat = true →
    (s.prstOk p.toNat = false → Runs (.pagePrst i p) s fun t => (t.pevt pageSYS).testBit 3 = true ∧
      t.stage = s.stage ∧ (∀ a, a / 256 = p.toNat → a % 256 ∉ [0x10, 0x18, 0x1C] → t.rd a = s.rd a) ∧
      RegsKept s t [0x010, 0x018, p.toNat * 256 + 0x1C] ∧ LanesKept s t [] ∧ StoresKept s t) ∧
    (∀ l : LaneNo, p.toNat = pageLANE l.val → s.prstOk p.toNat = true → Runs (.pagePrst i p) s fun t =>
      t.pevt p.toNat = 0 ∧ t.pirq p.toNat = 0 ∧
      (∀ r ∈ rowsLANE, 0x20 ≤ r.off → r.off ≠ 0x50 →
        let a := p.toNat * 256 + r.off
        t.rd a &&& wordOf (r.rw ||| r.rws) = resetWord a &&& wordOf (r.rw ||| r.rws)) ∧
      (∀ a, a / 256 = p.toNat → a % 256 ≠ 0x50 → t.staged a = none) ∧
      t.rd (p.toNat * 256 + 0x50) = s.rd (p.toNat * 256 + 0x50) ∧
      (∀ a, a / 256 ≠ p.toNat → t.rd a = s.rd a ∧ t.staged a = s.staged a) ∧
      LanesKept s t [l.val] ∧ StoresKept s t)) ∧
  (∀ (i : Init) (s : State) (l : LaneNo), s.Ready i → s.enabled l.val = true → s.isLead l.val = true →
    ((s.lane l.val).chan.st = .hold → Runs (.locclr i l) s fun t =>
      let w := (s.lane l.val).swp
      t.lane l.val = { s.lane l.val with chan := { (s.lane l.val).chan with st := .active },
                                         swp := if s.inEis l.val then { w with settle := w.cfg.nset, whole := false, n := 0, flags := 0, marks := 0 }
                                                else w } ∧
      LanesKept s t [l.val] ∧ StoresKept s t) ∧
    ((s.lane l.val).chan.st = .safe → Runs (.shedclr i l) s fun t =>
      (∀ n ∈ s.members l.val, n < 64 → t.flag (LANE_LSTAT_SHED n) = false ∧ (t.lane n).st = .safe) ∧
      t.flag (LANE_CHSTAT_DERATED l.val) = false ∧ LanesKept s t (s.members l.val) ∧ StoresKept s t) ∧
    ((s.lane l.val).chan.st ≠ .hold → (s.lane l.val).chan.st ≠ .safe → ∀ c ∈ [Instr.locclr i l, .shedclr i l],
      Runs c s fun t => LanesKept s t [] ∧ RegsKept s t [(LANE_CHCTL_RUN l.val).addr, pageLANE l.val * 256 + 0x1C] ∧ StoresKept s t))

/-- CAL_COEF_WRITE changes the selected word alone while roving is stopped and is refused otherwise; CAL_COEF_READ, QACC_READ,
MTIME_READ, PTIME_READ, EFU_ENERGY_READ, EIS_ZRE_READ and RTC_CAL_READ latch for their initiator the words of the same moment
and change nothing else; ACCCLR adds its lanes. (R205, R218, R333, R366, R409, R452, R533, R217) -/
def Obligations.LatchedReadsAndCoefficientAccess : Prop :=
  (∀ (i : Init) (s : State) (data : Word) (l : LaneNo) (high : Bool) (k : Nat), s.Ready i →
    (s.flag ⟨0xC08, 0, 1⟩ = false → (∀ n, n < 8 → (s.spare n).phase = 0 ∨ (s.spare n).phase = 5) → s.csel = some k →
      Runs (.calCoefWrite i data) s fun t =>
        t.coef (k + s.get CAL_CSEL_WORD) = BitVec.ofNat 32
          (data.toNat % 2 ^ (match s.get CAL_CSEL_WORD with | 0 => 24 | 1 => 24 | 2 => 16 | _ => 32)) ∧
        (∀ j, j ≠ k + s.get CAL_CSEL_WORD → t.coef j = s.coef j) ∧ RegsKept s t [0xC1C] ∧ LanesKept s t [] ∧ StoresKept s t) ∧
    ((s.flag ⟨0xC08, 0, 1⟩ = true ∨ ∃ n, n < 8 ∧ (s.spare n).phase ≠ 0 ∧ (s.spare n).phase ≠ 5) →
      Runs (.calCoefWrite i data) s fun t => (t.pevt pageCAL).testBit 10 = true ∧ t.cal = s.cal ∧
        RegsKept s t [0xC10, 0xC18, 0xC1C] ∧ LanesKept s t [] ∧ StoresKept s t) ∧
    (s.csel = some k → s.get CAL_CSEL_WORD = 0 → Runs (.calCoefRead i) s fun t =>
      (∀ j, j < 3 → t.latched i (coefLatch (k + j + 1)) = some (s.coef (k + j + 1))) ∧ t = { s with latches := t.latches }) ∧
    Runs (.accclr i high data) s (fun t =>
      t.rd (if high then 0xC84 else 0xC80) = s.rd (if high then 0xC84 else 0xC80) ||| data ∧
      RegsKept s t [if high then 0xC84 else 0xC80, 0xC1C] ∧ LanesKept s t [] ∧ StoresKept s t) ∧
    (s.enabled l.val = true → s.isLead l.val = true → Runs (.qaccRead i l) s fun t =>
      t.latched i ((LANE_QACCL_Q l.val).addr + 4) = some (BitVec.ofNat 32 (s.qAccWord l.val / 2 ^ 32)) ∧
      t.latched i ((LANE_QACCL_Q l.val).addr + 8) = some (BitVec.ofNat 32 (s.eAccWord l.val)) ∧
      t.latched i ((LANE_QACCL_Q l.val).addr + 12) = some (BitVec.ofNat 32 (s.eAccWord l.val / 2 ^ 32)) ∧
      t = { s with latches := t.latches })) ∧
  (∀ (i : Init) (s : State) (f : Fin 2), s.Ready i →
    let only (t : State) : Prop := t = { s with latches := t.latches } ∧
      ∀ j a, j ≠ i → t.latched j a = s.latched j a
    Runs (.mtimeRead i) s (fun t => only t ∧ t.latched i 0x1644 = some (s.rd 0x1644)) ∧
    Runs (.ptimeRead i) s (fun t => only t ∧ t.latched i 0x1534 = some (BitVec.ofNat 32 (s.time.ptime / 2 ^ 32))) ∧
    Runs (.efuEnergyRead i f) s (fun t => only t ∧
      t.latched i (EFU_FEH_E f.val).addr = some (BitVec.ofNat 32 (s.feedEnergy f.val / 2 ^ 32))) ∧
    (s.present pageEIS = true → Runs (.eisZreRead i) s fun t => only t ∧
      ∀ o ∈ [0x38, 0x3C, 0x40, 0x44, 0x48], t.latched i (0xE00 + o) = some (s.eisShown o)) ∧
    Runs (.rtcCalRead i 0) s (fun t => only t ∧ t.latched i 0x928 = some (s.rd 0x928)) ∧
    Runs (.rtcCalRead i 1) s (fun t => only t ∧
      t.latched i 0x960 = some ((s.stamps (s.get RTC_EVSEL_IN)).getD 0 (0, 0)).2) ∧
    Runs (.rtcCalRead i 2) s (fun t => only t ∧ ∀ o ∈ [0x68, 0x6C, 0x70], t.latched i (0x900 + o) = some (s.rd (0x900 + o))))

/-- RCP_BARREL adds its group to the releases of the next boundary; RCP_ECMD stores the edit buffer in the recipe memory, waits for
a commit, or is refused while one waits; TBLCMD starts checks; EST_SEED keeps a seed for its channel or is refused; WBREQ asks
for or starts a writeback. (R239, R243, R244, R296, R302, R310, R251) -/
def Obligations.RecipeAndEstimatorCommandsAct : Prop :=
  ∀ (i : Init) (s : State) (data : Word), s.Ready i →
    Runs (.rcpBarrel i data) s (fun t => t.rel = s.rel ++ [data.toNat % 65536] ∧ RegsKept s t [0x181C] ∧ LanesKept s t [] ∧
      StoresKept s t) ∧
    (s.flag RCP_ESTAT_EPEND = true → Runs (.rcpEcmd i data) s fun t => (t.pevt pageRCP).testBit 2 = true ∧
      RegsKept s t [0x1810, 0x1818, 0x181C] ∧ LanesKept s t [] ∧ StoresKept s t) ∧
    (s.flag RCP_ESTAT_EPEND = false → data.getLsbD 16 = true → Runs (.rcpEcmd i data) s fun t =>
      t.flag RCP_ESTAT_EPEND = true ∧ t.get RCP_ESTAT_EIDX = data.toNat % 8192 ∧ RegsKept s t [0x1874, 0x181C] ∧
      LanesKept s t [] ∧ StoresKept s t) ∧
    (s.flag RCP_ESTAT_EPEND = false → data.getLsbD 16 = false → Runs (.rcpEcmd i data) s fun t =>
      t.flag RCP_ESTAT_EPEND = false ∧ (t.pevt pageRCP).testBit 7 = true ∧
      (∀ k, k < 8 → t.memWord (0x40000 + 32 * (data.toNat % 8192) + 4 * k) = s.rd (RCP_EBUF_DATA k).addr) ∧
      (∀ a, (a < 0x40000 + 32 * (data.toNat % 8192) ∨ 0x40000 + 32 * (data.toNat % 8192) + 32 ≤ a) → t.byte a = s.byte a) ∧
      LanesKept s t [] ∧ t.store = s.store ∧ t.otp = s.otp) ∧
    Runs (.tblcmd i data) s (fun t => t.estb = { s.estb with check := s.estb.check ||| data.toNat % 256 } ∧
      RegsKept s t [0xD1C] ∧ LanesKept s t [] ∧ StoresKept s t) ∧
    (∀ l : LaneNo, data.toNat % 64 = l.val → s.enabled l.val = true → s.isLead l.val = true → s.flag (LANE_ESTCFG_EN l.val) = true →
      data.toNat / 65536 ≤ 10000 → Runs (.estSeed i data) s fun t =>
        (t.lane l.val).est.seed = some (data.toNat / 65536) ∧ RegsKept s t [0xD1C] ∧ LanesKept s t [l.val] ∧ StoresKept s t) ∧
    (10000 < data.toNat / 65536 → Runs (.estSeed i data) s fun t => (t.pevt pageEST).testBit 8 = true ∧
      RegsKept s t [0xD10, 0xD18, 0xD1C] ∧ LanesKept s t [] ∧ StoresKept s t) ∧
    (s.flag EST_WBSTAT_BUSY = true → Runs (.wbreq i data) s fun t => t.flag EST_WBCFG_WBREQ = true ∧ t.store = s.store ∧
      RegsKept s t [0xD34, 0xD1C] ∧ LanesKept s t [] ∧ StoresKept s t) ∧
    (s.flag EST_WBSTAT_BUSY = false → s.coreRuns = true → s.storeUsable = true → Runs (.wbreq i data) s fun t =>
      t.flag EST_WBCFG_WBREQ = false ∧ t.flag EST_WBSTAT_BUSY = true ∧ t.estb.snap = s.laneBits 0xD40 0xD44 ∧
      RegsKept s t [0xD34, 0xD38, 0xD1C] ∧ LanesKept s t [])

/-- With the port ready: HOST_NOP, HOST_WR, HOST_WRQ, HOST_RD, HOST_RDQ and BAD_OPCODE answer the status byte, count the frame, post
intact writes in order, refuse a word whose CRC-8 differs, read an applied word with its CRC-8, answer STALE while an own write to
the unit waits, report an address error, and
HOST_WRITE_APPLY applies the front write. While the port is not ready a frame changes no queue, and HOST_PORT_RESET_END ends
that. (R112, R118, R119, R121, R122, R123, R124, R125, R126, R130, R87) -/
def Obligations.HostFramesPostAndRead : Prop :=
  (∀ (s : State) (x : WriteFrame) (y : ReadFrame) (v : Word) (rest : List (Nat × Word)) (b : Byte),
    s.hostReady = true →
    let a (k : Nat) : Nat := wordAddr (x.addr.toNat + 4 * k)
    let framed (t : State) : Prop := t.hif.reply.status = s.hostStatus ∧
      t.rd 0x1030 = (if s.frz pageHIF then s.rd 0x1030 else s.rd 0x1030 + 1) ∧ LanesKept s t [] ∧ StoresKept s t
    Runs .hostNop s (fun t => framed t ∧ t.hif = { s.hif with prevErr := .none, reply := ⟨s.hostStatus, []⟩ } ∧ RegsKept s t [0x1030]) ∧
    (x.cut = .none → (∀ w ∈ x.words, w.applied = []) → s.hif.queue.length + x.words.length ≤ 32 →
      (∀ k w, x.words[k]? = some w → writable (a k) = true ∧ hostReset (a k) w.data = false) →
      ∀ p ∈ [(Instr.hostWr x, 0x02), (.hostWrq x, 0x12)],
        (s.flag HIF_CFG_CRCEN = true → ∀ k w, x.words[k]? = some w →
          frameCrc p.2 x.addr.toNat ((x.words.take (k + 1)).map (·.data)) = w.crc.toNat) →
        Runs p.1 s fun t => framed t ∧ t.hif.queue = s.hif.queue ++ x.words.mapIdx (fun k w => (a k, w.data)) ∧
          t.hif.prevErr = .none ∧ RegsKept s t [0x1030]) ∧
    (∀ w ws, x.cut = .none → x.words = w :: ws → w.applied = [] → s.flag HIF_CFG_CRCEN = true →
      ∀ p ∈ [(Instr.hostWr x, 0x02), (.hostWrq x, 0x12)], frameCrc p.2 x.addr.toNat [w.data] ≠ w.crc.toNat →
        Runs p.1 s fun t => framed t ∧ t.hif.queue = s.hif.queue ∧ t.hif.prevErr = .crc ∧ (t.pevt pageHIF).testBit 0 = true ∧
          RegsKept s t [0x1030, 0x1010, 0x1018, 0x1024, 0x1028]) ∧
    (y.cut = .none → y.words = [[]] → s.flag HIF_CFG_CRCEN = false → ∀ c ∈ [Instr.hostRd y, .hostRdq y],
      (wordAddr y.addr.toNat = 0x078 → s.hostPending 0x078 = false → Runs c s fun t => framed t ∧
        t.hif.reply.words = [(s.rd 0x078, 0)] ∧ t.hif.prevErr = .none ∧ RegsKept s t [0x1030]) ∧
      (∀ m, regionOf (wordAddr y.addr.toNat) = .recipe → s.hostPending (wordAddr y.addr.toNat) = false → s.memWord (wordAddr y.addr.toNat) = m →
        Runs c s fun t => framed t ∧ t.hif.reply.words = [(m, 0)] ∧ t.hif.prevErr = .none ∧ RegsKept s t [0x1030]) ∧
      (readable (wordAddr y.addr.toNat) = false → Runs c s fun t => framed t ∧ t.hif.reply.words = [(0, 0)] ∧ t.hif.prevErr = .addr ∧
        (t.pevt pageHIF).testBit 1 = true ∧ RegsKept s t [0x1030, 0x1010, 0x1018, 0x1024, 0x1028])) ∧
    (y.cut = .none → y.words = [[]] → ∀ p ∈ [(Instr.hostRd y, 0x03), (.hostRdq y, 0x13)],
      let r := wordAddr y.addr.toNat
      let w := (s.readWord .host r).1
      (readable r = true → s.hostPending r = false → r ≠ 0x1030 → Runs p.1 s fun t => framed t ∧ t.hif.prevErr = .none ∧
        t.hif.reply.words = [(w, if s.flag HIF_CFG_CRCEN then BitVec.ofNat 8 (frameCrc p.2 y.addr.toNat [w]) else 0)]) ∧
      (readable r = true → s.hostPending r = true → Runs p.1 s fun t => framed t ∧ t.hif.prevErr = .stale ∧
        t.hif.reply.words.length = 1 ∧ (t.pevt pageHIF).testBit 2 = true ∧ t.hif.queue = s.hif.queue ∧
        RegsKept s t [0x1030, 0x1010, 0x1018, 0x1024, 0x1028])) ∧
    (b.toNat ∉ [0, 0x02, 0x03, 0x12, 0x13] → Runs (.badOpcode b false) s fun t => framed t ∧ t.hif.prevErr = .opcode ∧
      (t.pevt pageHIF).testBit 3 = true ∧ t.flag HIF_ERRSTAT_VALID = true ∧ t.hif.queue = s.hif.queue ∧
      RegsKept s t [0x1030, 0x1010, 0x1018, 0x1024, 0x1028]) ∧
    (s.hif.queue = (0x078, v) :: rest → Runs (.hostWriteApply 0) s fun t => t.hif.queue = rest ∧ t.rd 0x078 = v ∧
      RegsKept s t [0x078, 0x01C] ∧ LanesKept s t [] ∧ StoresKept s t)) ∧
  (∀ s : State,
    (s.psq.st ≠ .powerless → s.running = true → s.hostReady = false → Runs .hostNop s fun t =>
      t.hif.reply = ⟨0, []⟩ ∧ t.hif.prevErr = .notReady ∧ t.hif.queue = s.hif.queue ∧ t.rd 0x1030 = s.rd 0x1030) ∧
    Runs .hostPortResetEnd s (fun t => t = { s with hif := { s.hif with resetting := false } } ∧
      (s.running = true → s.mode ≠ .deepSleep → t.hostReady = true)))

/-- EFU_FEED_ENABLE starts the debounce from OFF and leaves other states; EFU_FEED_DISABLE goes to OFF from every state; EFU_CLR
restarts a latched feed; the other feed, every lane and every store are unchanged. (R358, R365, R370) -/
def Obligations.FeedControlWritesMoveTheFeed : Prop :=
  ∀ (i : Init) (s : State) (f : Fin 2), s.Ready i →
    let quiet (t : State) : Prop := (∀ g, g ≠ f.val → t.feed g = s.feed g) ∧ LanesKept s t [] ∧ StoresKept s t ∧
      RegsKept s t [0xA20 + 64 * f.val, 0xA34 + 64 * f.val, 0xA10, 0xA18, 0xA1C]
    let inserts (t : State) : Prop := t.fst f.val = fsInsert ∧ t.gateOn f.val = false ∧ t.flag (EFU_FCTL_EN f.val) = true ∧
      (t.feed f.val).ins = s.inWindow f.val (s.feed f.val).vin ∧
      (s.inWindow f.val (s.feed f.val).vin = true → (t.pevt pageEFU).testBit (6 + 8 * f.val) = true)
    (s.fst f.val = fsOff → Runs (.efuFeedEnable i f) s fun t => quiet t ∧ inserts t) ∧
    (s.fst f.val ≠ fsOff → Runs (.efuFeedEnable i f) s fun t => quiet t ∧ t.flag (EFU_FCTL_EN f.val) = true ∧
      t.rd (0xA34 + 64 * f.val) = s.rd (0xA34 + 64 * f.val) ∧ t.efu = s.efu) ∧
    Runs (.efuFeedDisable i f) s (fun t => quiet t ∧ t.flag (EFU_FCTL_EN f.val) = false ∧ t.fst f.val = fsOff ∧
      t.gateOn f.val = false ∧ t.get (EFU_FSTAT_RTRYCNT f.val) = 0 ∧ t.flag (EFU_FSTAT_DFET f.val) = false ∧
      t.get (EFU_FSTAT_CAUSE f.val) = s.get (EFU_FSTAT_CAUSE f.val)) ∧
    (s.flag (EFU_FCTL_EN f.val) = true → s.fst f.val = fsLatched → Runs (.efuClr i f) s fun t => quiet t ∧ inserts t ∧
      t.get (EFU_FSTAT_RTRYCNT f.val) = 0 ∧ t.flag (EFU_FSTAT_DFET f.val) = false) ∧
    (s.flag (EFU_FCTL_EN f.val) = true → s.fst f.val ≠ fsLatched → s.fst f.val ≠ fsOff → Runs (.efuClr i f) s fun t =>
      quiet t ∧ t.rd (0xA34 + 64 * f.val) = s.rd (0xA34 + 64 * f.val) ∧ t.efu = s.efu)

/-- For each feed and state: insertion, limit exit, fast trip, reverse and rejoin, charge-pump failure, ramp end and time-out,
under-voltage, settling, trip end, retry and a found pair fault answer the next state, cause, counts, events and SYS.FLTSRC that
the chapter gives; the other feed does not move. (R356, R357, R358, R362, R364, R365, R368, R371) -/
def Obligations.FeedsFollowTheirEvents : Prop :=
  ∀ (s : State) (k : Fin 2),
    let f := k.val
    let st := s.fst f
    let kept (t : State) : Prop := LanesKept s t [] ∧ StoresKept s t ∧ (∀ j, j ≠ f → t.feed j = s.feed j) ∧
      (∀ j, j < 2 → j ≠ f → t.fst j = s.fst j)
    let goes (t : State) (x : Nat) : Prop := t.fst f = x ∧ kept t
    let tripped (t : State) (cause : Nat) : Prop := t.fst f = 5 ∧ t.get (EFU_FSTAT_CAUSE f) = cause ∧ t.flag SYS_FLTSRC_EFU = true ∧
      (s.frz pageEFU = false → t.get (EFU_FCNT_TRIPCNT f) = min (s.get (EFU_FCNT_TRIPCNT f) + 1) 255)
    let event (t : State) (i : Nat) : Prop := (t.pevt pageEFU).testBit (i + 8 * f) = true
    let cond : Prop := st = 2 ∨ st = 3 ∨ st = 4
    s.alive = true →
    (st = 1 → Runs (.efuInsertDone k) s (fun t => goes t 2 ∧ (t.feed f).soa = 0 ∧ t.get (EFU_FSTAT_SOALVL f) = 0 ∧
        ((s.feed f).ins = false → event t 6)) ∧
      Runs (.efuInputLeavesWindow k) s (fun t => goes t 1 ∧ (t.feed f).ins = false ∧ RegsKept s t [])) ∧
    (st = 4 → Runs (.efuLimitExit k) s fun t => goes t 3 ∧ t.flag (EFU_FSTAT_BLK f) = false ∧ RegsKept s t [(EFU_FSTAT_ST f).addr]) ∧
    (cond →
      Runs (.efuFastTrip k) s (fun t => tripped t 1 ∧ kept t ∧
        (s.frz pageEFU = false → t.get (EFU_FCNT_FASTCNT f) = min (s.get (EFU_FCNT_FASTCNT f) + 1) 255)) ∧
      Runs (.efuInputUv k) s (fun t => goes t 1 ∧ (t.feed f).ins = false ∧ RegsKept s t [(EFU_FSTAT_ST f).addr])) ∧
    (st = 2 ∨ st = 3 ∧ s.flag (EFU_FSTAT_BLK f) = false → Runs (.efuReverse k) s fun t => goes t 3 ∧ t.flag (EFU_FSTAT_BLK f) = true ∧
      event t 3 ∧ (st = 2 → event t 5) ∧
      (s.frz pageEFU = false → t.get (EFU_FCNT_REVCNT f) = min (s.get (EFU_FCNT_REVCNT f) + 1) 255)) ∧
    (st = 3 → s.flag (EFU_FSTAT_BLK f) = true → Runs (.efuRejoin k) s fun t => goes t 3 ∧ t.flag (EFU_FSTAT_BLK f) = false ∧
      RegsKept s t [(EFU_FSTAT_ST f).addr]) ∧
    Runs .cpFail s (fun t => LanesKept s t [] ∧ StoresKept s t ∧ t.flag EFU_CPSTAT_CPOK = false ∧
      (cond → tripped t 6 ∧ (t.pevt pageEFU).testBit 7 = true) ∧ (¬cond → t.fst f = st)) ∧
    (st = 2 → Runs (.efuRampDone k) s (fun t => goes t 3 ∧ t.flag (EFU_FSTAT_PG f) = true ∧ t.flag (EFU_FSTAT_BLK f) = false ∧ event t 5) ∧
      Runs (.efuRampTimeout k) s (fun t => tripped t 3 ∧ kept t)) ∧
    (st = 3 → Runs (.efuOnSettled k) s fun t => goes t 3 ∧ t.get (EFU_FSTAT_RTRYCNT f) = 0 ∧ RegsKept s t [(EFU_FSTAT_ST f).addr]) ∧
    (let used := s.get (EFU_FSTAT_RTRYCNT f)
     let n := s.get (EFU_FCTL_RTRYN f)
     (st = 5 → n = 15 ∨ used < n → Runs (.efuTripEnd k) s fun t => goes t 6 ∧ t.get (EFU_FSTAT_RTRYCNT f) = min 15 (used + 1) ∧ event t 0) ∧
     (st = 5 → n ≠ 15 → n ≤ used → Runs (.efuTripEnd k) s fun t => goes t 7 ∧ event t 0 ∧ event t 1 ∧ t.flag SYS_FLTSRC_EFU = true)) ∧
    (∀ vin, st = 6 → (s.inWindow f vin = true → Runs (.efuRetry k vin) s fun t => goes t 2 ∧ (t.feed f).vin = vin) ∧
      (s.inWindow f vin = false → Runs (.efuRetry k vin) s fun t => goes t 1 ∧ (t.feed f).ins = false)) ∧
    (s.gateOn f = false → st ≠ 7 → Runs (.efuDfet k) s fun t => goes t 7 ∧ t.get (EFU_FSTAT_CAUSE f) = 5 ∧ t.flag (EFU_FSTAT_DFET f) = true ∧
      event t 1 ∧ event t 2 ∧ t.flag SYS_FLTSRC_EFU = true)

/-- EFU_SAMPLE completes in every feed state and takes the first condition that holds; energy and the SOA accumulator take the
sample in all of them. (R358, R360, R366, R371) -/
def Obligations.FeedSamplesTripInOrder : Prop :=
  ∀ (s : State) (k : Fin 2) (x : FeedIn),
    let f := k.val
    let st := s.fst f
    let lin : Prop := st = 2 ∨ st = 4
    let i := s.feedCurrent f x.vsh
    let tooHigh : Prop := s.gateOn f = true ∧ s.get (EFU_FVWIN_OV f) * 10 < x.vin
    let spent : Prop := s.soaBudget f ≤ (s.feed f).soa + (max 0 (x.vds * i)).toNat
    let base (t : State) : Prop := t.flag EFU_CPSTAT_CPOK = x.cpOk ∧ (t.feed f).vin = x.vin ∧
      (t.feed f).energy = clampI (-(2 ^ 63) * 1000000000) (2 ^ 63 * 1000000000 - 1) ((s.feed f).energy + (x.vin : Int) * i) ∧
      (lin → (t.feed f).soa = (s.feed f).soa + (max 0 (x.vds * i)).toNat) ∧
      (¬lin → (t.feed f).soa = (s.feed f).soa - s.get (EFU_FSOA_COOL f) * 100000000) ∧
      LanesKept s t [] ∧ StoresKept s t
    let tripped (t : State) (cause : Nat) : Prop := base t ∧ t.fst f = 5 ∧ t.get (EFU_FSTAT_CAUSE f) = cause ∧ t.flag SYS_FLTSRC_EFU = true
    s.alive = true →
    (tooHigh → Runs (.efuSample k x) s (tripped · 4)) ∧
    (¬tooHigh → lin → spent → Runs (.efuSample k x) s (tripped · 2)) ∧
    (¬tooHigh → lin ∧ ¬spent ∨ st = 3 → x.cpOk = false → Runs (.efuSample k x) s fun t => tripped t 6 ∧ (t.pevt pageEFU).testBit 7 = true) ∧
    (¬tooHigh → st = 3 → s.flag (EFU_FSTAT_BLK f) = false → x.cpOk = true → (s.get (EFU_FLIM_ILIM f) : Int) * 50 ≤ x.vsh →
      Runs (.efuSample k x) s fun t => base t ∧ t.fst f = 4 ∧ t.flag (EFU_FSTAT_LIM f) = true ∧ (t.pevt pageEFU).testBit (4 + 8 * f) = true) ∧
    (¬tooHigh → (lin ∧ ¬spent) ∨ (st = 3 ∧ x.vsh < (s.get (EFU_FLIM_ILIM f) : Int) * 50) → x.cpOk = true →
      Runs (.efuSample k x) s fun t => base t ∧ t.fst f = st ∧ (t.flag (EFU_FSTAT_PG f) = decide (st = 3 ∧ x.vds < 250))) ∧
    (st = 1 → Runs (.efuSample k x) s fun t => base t ∧ t.fst f = 1 ∧ (t.feed f).ins = s.inWindow f x.vin ∧
      ((s.feed f).ins = false → s.inWindow f x.vin = true → (t.pevt pageEFU).testBit (6 + 8 * f) = true)) ∧
    (st = 0 ∨ 5 ≤ st → Runs (.efuSample k x) s fun t => base t ∧ t.fst f = st)

/-- BOOT_GO starts the image check for the initiator that the strap names and is an error for others; CORE_C2H sets its event;
WDG_CHECKIN marks the enabled tasks and reports doubles, also as the supervisor service; WDG_LOCK writes CTL once; CAPSTAT_REARM
clears VALID alone. (R390, R397, R398, R400, R405, R409, R410) -/
def Obligations.CoreAndWatchdogWritesAct : Prop :=
  ∀ (i : Init) (s : State) (data : Word), s.Ready i →
    let kept (t : State) : Prop := LanesKept s t [] ∧ StoresKept s t
    (s.get CORE_BOOTSTAT_STAGE = 3 →
      Runs (.bootGo i data) s fun t => kept t ∧ RegsKept s t [0x1624, 0x1610, 0x1618, 0x161C] ∧
        (if i = .host ∧ s.get SYS_STRAP_BOOTSEL = 1 ∨ (∃ x, i = .u x) ∧ s.get SYS_STRAP_BOOTSEL = 2
          then t.get CORE_BOOTSTAT_STAGE = 4 ∧ t.pevt pageCORE = s.pevt pageCORE
          else t.get CORE_BOOTSTAT_STAGE = 3 ∧ t.get CORE_BOOTSTAT_ERR = 5 ∧ (t.pevt pageCORE).testBit 1 = true)) ∧
    (s.get CORE_BOOTSTAT_STAGE ≠ 3 → Runs (.bootGo i data) s fun t => kept t ∧ RegsKept s t [0x161C]) ∧
    Runs (.coreC2h i data) s (fun t => kept t ∧ (t.pevt pageCORE).testBit 0 = true ∧ RegsKept s t [0x1610, 0x1618, 0x161C]) ∧
    (s.wdg.on = true → Runs (.wdgCheckin i false data) s fun t => kept t ∧ t.wdg = s.wdg ∧
      RegsKept s t [0x734, 0x73C, 0x710, 0x718, 0x71C] ∧
      (∀ k, k < 16 → (t.get WDG_LEDGER_LEDGER).testBit k =
        ((s.get WDG_LEDGER_LEDGER).testBit k || (data.getLsbD k && s.wdg.tasks.testBit k))) ∧
      ((t.pevt pageWDG).testBit 1 = ((s.pevt pageWDG).testBit 1 ||
        (List.range 16).any fun k => (s.get WDG_LEDGER_LEDGER).testBit k && data.getLsbD k && s.wdg.tasks.testBit k))) ∧
    exec (.wdgCheckin i true data) s =
      (if s.core.trapped ∨ s.coreRuns = false then .next s else exec (.wdgCheckin .core false data) s) ∧
    (s.flag WDG_CTL_LOCK = false → Runs (.wdgLock i data) s fun t => kept t ∧ t.flag WDG_CTL_LOCK = true ∧
      t.flag WDG_CTL_T520 = data.getLsbD 1 ∧ t.get WDG_CTL_FIRSTTO = data.toNat / 256 % 256 ∧
      RegsKept s t [0x72C, 0x710, 0x718, 0x71C]) ∧
    (s.flag WDG_CTL_LOCK = true → Runs (.wdgLock i data) s fun t => kept t ∧ (t.pevt pageWDG).testBit 3 = true ∧
      RegsKept s t [0x710, 0x718, 0x71C]) ∧
    Runs (.capstatRearm i data) s (fun t => kept t ∧ t.flag WDG_CAPSTAT_VALID = false ∧
      t.rd 0x748 &&& 0xFFFFFFFE = s.rd 0x748 &&& 0xFFFFFFFE ∧ RegsKept s t [0x748, 0x71C])

/-- CORE_START, IMAGE_CHECK_DONE, CORE_INTERRUPT, CORE_TRAP, SVC_HANDLER and DEBUG_HALT complete with the stage, error, handler
call, trap record and halt that the chapter gives. (R388, R389, R390, R391, R392, R394, R401, R404, R407) -/
def Obligations.CoreBootsAndTakesItsInterrupts : Prop :=
  ∀ (s : State),
    let c := s.core
    let running := (s.rd 0x160C).getLsbD 0
    let img := s.imageCheck
    let stage (t : State) : Nat := t.get CORE_BOOTSTAT_STAGE
    let trap (cause pc tval entry : Word) : CoreRegs :=
      { c.regs with entry := entry, mepc := pc, mcause := cause, mtval := tval }
    let again : Prop := c.userRan = true ∧ s.flag CORE_BOOTCFG_REBOOT = true ∧ img.1 = 0
    let kept (t : State) : Prop := LanesKept s t [] ∧ StoresKept s t
    s.running = true →
    (running = false → Runs .coreStart s fun t => t.rd 0x160C = 1 ∧
      t.core = { c with cold := false, warm := !c.cold, regs := t.core.regs } ∧ t.core.regs.entry = 0xFF0000 ∧
      t.get CORE_BOOTSTAT_BOOTCNT = min 65535 (s.get CORE_BOOTSTAT_BOOTCNT + 1) ∧ t.get CORE_BOOTSTAT_SRC = s.bootSel ∧ StoresKept s t ∧
      (c.cold = true → stage t = (if s.bootSel = 0 then 6 else 3) ∧ (s.bootSel = 0 → t.rst.modeReq = some .run) ∧
        (s.otpDoubt = true → t.flag SYS_FLTSRC_OTP = true) ∧ t.wdg = s.wdg) ∧
      (c.cold = false → LanesKept s t [] ∧ (t.pevt pageCORE).testBit 3 = true ∧ t.wdg.on = true ∧ t.wdg.first = true ∧
        t.get WDG_COUNT_C = 0 ∧ t.rst = s.rst ∧ (again → stage t = 4) ∧ (¬again → stage t = if s.bootSel = 0 then 6 else 3))) ∧
    (stage s = 4 →
      (img.1 = 0 → Runs .imageCheckDone s fun t => kept t ∧ stage t = 7 ∧ t.get CORE_BOOTSTAT_ERR = 0 ∧
        t.core = { c with userRan := true, regs := { c.regs with entry := s.memWord 0x100008 + 0x100000 } } ∧
        t.rd 0x160C = s.rd 0x160C ||| 8 ∧ (t.pevt pageCORE).testBit 2 = true ∧ (∀ x, img.2 = some x → t.get CORE_IMGCRC_CRC = x % 2 ^ 32) ∧
        (c.warm = false → t.rst.modeReq = some .run) ∧ (c.warm = true → t.rst = s.rst)) ∧
      (img.1 ≠ 0 → Runs .imageCheckDone s fun t => kept t ∧ stage t = 3 ∧ t.get CORE_BOOTSTAT_ERR = img.1 ∧ t.core = c ∧
        (t.pevt pageCORE).testBit 1 = true ∧ t.rst = s.rst)) ∧
    (s.coreRuns = true →
      (∀ irq pc, s.irqDue irq = true →
        (∀ h, s.handlerOf (irqCause irq) = some h → Runs (.coreInterrupt irq pc) s fun t =>
          t = { s with core := { c with call := some ⟨h, irqCause irq, pc, 0⟩, regs := trap (irqCause irq) pc 0 h } }) ∧
        (s.handlerOf (irqCause irq) = none → Runs (.coreInterrupt irq pc) s fun t =>
          t = { s with core := { c with regs := trap (irqCause irq) pc 0 c.regs.entry } })) ∧
      (∀ (cause : BitVec 4) pc tval,
        (∀ h, s.handlerOf (cause.setWidth 32) = some h → Runs (.coreTrap cause pc tval) s fun t =>
          t = { s with core := { c with call := some ⟨h, cause.setWidth 32, pc, tval⟩, regs := trap (cause.setWidth 32) pc tval h } }) ∧
        (s.handlerOf (cause.setWidth 32) = none → Runs (.coreTrap cause pc tval) s fun t => kept t ∧
          t.get CORE_TRAPCAUSE_MCAUSE = cause.toNat ∧ t.rd 0x1670 = pc ∧
            t.core = { c with trapped := true, regs := trap (cause.setWidth 32) pc tval c.regs.entry } ∧
          (t.pevt pageCORE).testBit 4 = true)) ∧
      (∀ a0 a1 : Word,
        let ok : Prop := (a0.toNat < 16 ∨ a0 = 0x80000003 ∨ a0 = 0x80000007 ∨ a0 = 0x8000000B) ∧ (a1 = 0 ∨ inSram a1.toNat = true)
        (ok → Runs (.svcHandler a0 a1) s fun t => t.core.a0 = 0 ∧ t.core.a1 = c.a1 ∧
          (∀ x, t.handlerOf x = if x = a0 then (if a1 = 0 then none else some a1) else s.handlerOf x) ∧
          t = { s with core := { c with a0 := 0, handlers := t.core.handlers } }) ∧
        (¬ok → Runs (.svcHandler a0 a1) s fun t => t = { s with core := { c with a0 := 5 } }))) ∧
    (∀ halt : Bool, s.flag DBG_STAT_EN = true → running = true → s.flag DBG_STAT_HALTED = !halt → Runs (.debugHalt halt) s fun t =>
      kept t ∧ t.flag DBG_STAT_HALTED = halt ∧ (t.rd 0x160C).getLsbD 2 = halt ∧ (t.rd 0x160C).getLsbD 0 = true ∧ t.core = c ∧
      (halt = true → (t.pevt pageDBG).testBit 2 = true))

/-- WDI_TOGGLE and WDG_LATE complete: held by the debugger, early, late, served and missing-task toggles each have their effect; an
expiry captures once, counts, sets the fault source and resets the core with its cause. (R395, R396, R397, R398, R399, R401,
R404, R85) -/
def Obligations.WatchdogTakesServiceOrExpires : Prop :=
  ∀ (s : State) (internal : Bool),
    let w := s.wdg
    let c := s.get WDG_COUNT_C
    let led := s.get WDG_LEDGER_LEDGER
    let o := s.get WDG_WOPEN_WOPEN
    let kept (t : State) : Prop := LanesKept s t [] ∧ StoresKept s t
    let frz := s.frz pageWDG
    let expired (t : State) (cause : Nat) : Prop := kept t ∧ t.wdg = { w with on := false, loc := true } ∧
      t.core = { CoreSt.reset with cold := s.core.cold, warm := true, userRan := s.core.userRan } ∧
      (t.pevt pageWDG).testBit 2 = true ∧ t.flag SYS_FLTSRC_WDG = true ∧ t.get RST_LAST_CODE = 5 ∧
      (t.get RST_CAUSE_CAUSE).testBit 5 = true ∧ t.get WDG_COUNT_C = 0 ∧ t.get WDG_LEDGER_LEDGER = 0 ∧ t.rd 0x160C = 0 ∧
      t.get CORE_BOOTSTAT_BOOTCNT = s.get CORE_BOOTSTAT_BOOTCNT ∧
      (frz = false → t.get WDG_CNT_EXPCNT = min (s.get WDG_CNT_EXPCNT + 1) 255) ∧ t.flag WDG_CAPSTAT_VALID = true ∧
      (s.flag WDG_CAPSTAT_VALID = true → t.get WDG_CAPSTAT_LOST = min 255 (s.get WDG_CAPSTAT_LOST + 1) ∧
        t.get WDG_CAPSTAT_CAUSE = s.get WDG_CAPSTAT_CAUSE ∧ t.get WDG_CAPFRM_FRAME = s.get WDG_CAPFRM_FRAME) ∧
      (s.flag WDG_CAPSTAT_VALID = false → t.get WDG_CAPSTAT_CAUSE = cause ∧ t.get WDG_CAPSTAT_LEDGER = led ∧
        t.flag WDG_CAPSTAT_NOSVC = !w.served ∧ t.get WDG_CAPFRM_FRAME = w.svcFrame % 2 ^ 32 ∧ ∃ k, t.rd 0x74C = Config.corePc k)
    s.wdgLive = true →
    (s.wdgHeld = false → Runs .wdgLate s (expired · 1)) ∧
    (internal = s.shadow.wdiSrc → (s.rd 0x160C).getLsbD 0 = true →
      (s.wdgHeld = true → frz = false → Runs (.wdiToggle internal) s fun t => kept t ∧ t.wdg = w ∧
        t.get WDG_CNT_FRZCNT = min (s.get WDG_CNT_FRZCNT + 1) 255 ∧ RegsKept s t [WDG_CNT_FRZCNT.addr]) ∧
      (s.wdgHeld = false → c < w.opens → Runs (.wdiToggle internal) s (expired · 2)) ∧
      (s.wdgHeld = false → w.opens ≤ c → w.closes ≤ c → Runs (.wdiToggle internal) s (expired · 1)) ∧
      (s.wdgHeld = false → w.opens ≤ c → c < w.closes → w.tasks &&& led = w.tasks → Runs (.wdiToggle internal) s fun t => kept t ∧
        t.get WDG_COUNT_C = 0 ∧ t.get WDG_LEDGER_LEDGER = 0 ∧ t.get WDG_LASTSVCL_T = s.time.ptime % 2 ^ 32 ∧
        t.get WDG_LASTSVCH_T = s.time.ptime / 2 ^ 32 % 2 ^ 32 ∧
        t.wdg = { w with on := true, first := false, served := true, svcPt := s.time.ptime, svcFrame := s.frame, opens := o * 2000,
                         closes := max (s.get WDG_WCLOSE_WCLOSE) (o + 1) * 2000, tasks := s.get WDG_TASKEN_TASKEN,
                         t520 := s.flag WDG_CTL_T520 } ∧
        RegsKept s t [0x734, 0x738, 0x740, 0x744]) ∧
      (s.wdgHeld = false → w.opens ≤ c → c < w.closes → w.tasks &&& led ≠ w.tasks → Runs (.wdiToggle internal) s fun t => kept t ∧
        t.wdg = w ∧ t.get WDG_COUNT_C = c ∧ t.get WDG_LEDGER_LEDGER = led ∧
        t.get WDG_LEDGER_MISSING = (w.tasks ^^^ (w.tasks &&& led)) % 65536 ∧ (t.pevt pageWDG).testBit 0 = true ∧
        (frz = false → t.get WDG_CNT_MISSCNT = min (s.get WDG_CNT_MISSCNT + 1) 255))) ∧
    (internal ≠ s.shadow.wdiSrc ∨ (s.rd 0x160C).getLsbD 0 = false → Runs (.wdiToggle internal) s fun t => t = s)

/-- DBG_NONCE draws a nonce unless held off; DBG_RESP opens debug access for the right response and otherwise keeps it, consumes the
nonce and starts the hold-off; DBG_RELOCK closes access in PROD and FIELD only. (R407, R408) -/
def Obligations.DebugUnlockNeedsTheResponse : Prop :=
  ∀ (i : Init) (s : State) (data : Word), s.Ready i →
    let kept (t : State) : Prop := LanesKept s t [] ∧ StoresKept s t
    (data.getLsbD 1 = false → s.dbg.holdEnd ≤ s.time.loc → Runs (.dbgNonce i data) s fun t => kept t ∧
      t.dbg = { s.dbg with nonce := true } ∧ (∃ j k, t.rd 0x1724 = Config.nonceWord j ∧ t.rd 0x1728 = Config.nonceWord k) ∧
      RegsKept s t [0x1724, 0x1728, 0x171C]) ∧
    (data.getLsbD 1 = false → s.time.loc < s.dbg.holdEnd → Runs (.dbgNonce i data) s fun t => kept t ∧ t.dbg = s.dbg ∧
      RegsKept s t [0x171C]) ∧
    (∀ key, s.shadow.key = some key → s.dbg.nonce = true → s.shadow.life ≠ .scrap →
      s.response key (s.rd 0x1724) (s.rd 0x1728) [0x44] = s.dbg.respL.toNat + data.toNat * 2 ^ 32 →
      Runs (.dbgResp i data) s fun t => kept t ∧ t.flag DBG_STAT_EN = true ∧ t.flag DBG_STAT_UNLOCKED = true ∧
        t.dbg = { s.dbg with nonce := false } ∧ (t.pevt pageDBG).testBit 0 = true ∧ RegsKept s t [0x1720, 0x1710, 0x1718, 0x171C]) ∧
    ((s.dbg.nonce = false ∨ s.shadow.key = none ∨ s.shadow.life = .scrap ∨ (∀ key, s.shadow.key = some key →
        s.response key (s.rd 0x1724) (s.rd 0x1728) [0x44] ≠ s.dbg.respL.toNat + data.toNat * 2 ^ 32)) →
      Runs (.dbgResp i data) s fun t => kept t ∧ t.rd 0x1720 = s.rd 0x1720 ∧
        t.dbg = { s.dbg with nonce := false, holdEnd := s.time.loc + 1000000000 } ∧ (t.pevt pageDBG).testBit 1 = true ∧
        RegsKept s t [0x1710, 0x1718, 0x171C]) ∧
    (data.getLsbD 0 = false → Runs (.dbgRelock i data) s fun t => kept t ∧ RegsKept s t [0x1720, 0x171C] ∧ t.dbg = s.dbg ∧
      (s.shadow.life = .prod ∨ s.shadow.life = .field → t.flag DBG_STAT_EN = false ∧ t.flag DBG_STAT_UNLOCKED = false) ∧
      (s.shadow.life ≠ .prod → s.shadow.life ≠ .field → t.rd 0x1720 = s.rd 0x1720))

/-- STORE_READ and STORE_WRITE start when free and are refused otherwise; STORE_ACCESS_DONE moves the words, ends the access and
reports. (R423, R426, R428) -/
def Obligations.StoreAccessRunsToItsReply : Prop :=
  ∀ (i : Init) (s : State) (data : Word), s.Ready i →
    let begun (k : Nat) (t : State) : Prop := t.flag REC_SSTAT_BUSY = true ∧ t.flag REC_SSTAT_DONE = false ∧
      t.flag REC_SSTAT_ERR = false ∧ t.evr = { s.evr with acc := k } ∧ RegsKept s t [0x85C, 0x81C] ∧ LanesKept s t [] ∧ StoresKept s t
    let refused (t : State) : Prop := t.flag REC_SSTAT_ERR = true ∧ t.flag REC_SSTAT_BUSY = false ∧ t.evr = s.evr ∧
      RegsKept s t [0x85C, 0x81C] ∧ LanesKept s t [] ∧ StoresKept s t
    (s.flag REC_SSTAT_BUSY = false → s.flag REC_RSTAT_ABSENT = false → Runs (.storeRead i data) s (begun 1)) ∧
    (s.flag REC_SSTAT_BUSY = false → s.flag REC_RSTAT_ABSENT = true → Runs (.storeRead i data) s refused) ∧
    (s.flag REC_SSTAT_BUSY = false → s.flag REC_RSTAT_ABSENT = false → data.getLsbD 0 = false → s.get REC_SADDR_ADDR < 0x1000 →
      Runs (.storeWrite .core data) s (begun 2)) ∧
    (s.flag REC_SSTAT_BUSY = false → data.getLsbD 0 = false →
      (i ≠ .core ∨ 0x1000 ≤ s.get REC_SADDR_ADDR ∨ s.flag REC_RSTAT_ABSENT = true) → Runs (.storeWrite i data) s refused) ∧
    (let a := s.get REC_SADDR_ADDR / 64 * 64
     let ended (t : State) : Prop := t.flag REC_SSTAT_BUSY = false ∧ t.flag REC_SSTAT_DONE = true ∧ t.evr = { s.evr with acc := 0 } ∧
       (t.pevt pageREC).testBit 8 = true ∧ LanesKept s t [] ∧ (∀ x, t.byte x = s.byte x) ∧ t.otp = s.otp
     (s.evr.acc = 1 → Runs (.storeAccessDone true) s fun t => ended t ∧ t.flag REC_SSTAT_ERR = false ∧ t.store = s.store ∧
       (∀ k, k < 16 → t.rd (0x860 + 4 * k) = readWordOf s.store (a + 4 * k))) ∧
     (s.evr.acc = 2 → Runs (.storeAccessDone true) s fun t => ended t ∧ t.flag REC_SSTAT_ERR = false ∧
       RegsKept s t [0x85C, 0x810, 0x818] ∧ (∀ k, k < 16 → readWordOf t.store (a + 4 * k) = s.rd (0x860 + 4 * k)) ∧
       (∀ x, x < a ∨ a + 64 ≤ x → sparseGet memDflt t.store x = sparseGet memDflt s.store x)) ∧
     (s.evr.acc ≠ 0 → Runs (.storeAccessDone false) s fun t => ended t ∧ t.flag REC_SSTAT_ERR = true ∧ t.store = s.store ∧
       RegsKept s t [0x85C, 0x810, 0x818]))

/-- CLR_NONCE, CLR_RESP, CLEAR_CHECK and CLEAR_TIMEOUT move the clear only along its states; a wrong response or a time-out leaves
the records. (R427, R428) -/
def Obligations.ClearGoesThroughItsStates : Prop :=
  ∀ (i : Init) (s : State) (data lo hi : Word), s.Ready i →
    let kept (t : State) : Prop := LanesKept s t [] ∧ StoresKept s t
    let failed (t : State) (why : Nat) : Prop := kept t ∧ t.get REC_CLRSTAT_STATE = 0 ∧ t.get REC_CLRSTAT_FAIL = why ∧
      t.evr.holdEnd = s.time.loc + 1000000000 ∧ (t.pevt pageREC).testBit 4 = true ∧ t.get REC_CLRSEQ_SEQ = s.get REC_CLRSEQ_SEQ ∧
      RegsKept s t [0x8B4, 0x8B8, 0x810, 0x818, 0x81C]
    (s.evr.holdEnd ≤ s.time.loc → Runs (.clrNonce i data) s fun t => kept t ∧ t.get REC_CLRSTAT_STATE = 1 ∧
      t.get REC_CLRSTAT_OWNER = Init.code i ∧ (∃ j k, t.rd 0x8A0 = Config.nonceWord j ∧ t.rd 0x8A4 = Config.nonceWord k) ∧
      t.evr = s.evr ∧ RegsKept s t [0x8A0, 0x8A4, 0x8B4, 0x81C]) ∧
    (s.time.loc < s.evr.holdEnd → Runs (.clrNonce i data) s fun t => kept t ∧ t.get REC_CLRSTAT_FAIL = 5 ∧
      t.get REC_CLRSTAT_STATE = s.get REC_CLRSTAT_STATE ∧ (t.pevt pageREC).testBit 4 = true ∧ t.evr = s.evr ∧
      RegsKept s t [0x8B4, 0x8B8, 0x810, 0x818, 0x81C]) ∧
    (s.get REC_CLRSTAT_STATE = 1 → s.get REC_CLRSTAT_OWNER = Init.code i → Runs (.clrResp i lo hi) s fun t => kept t ∧
      t.get REC_CLRSTAT_STATE = 2 ∧ t.evr = { s.evr with respL := lo, respH := hi } ∧ RegsKept s t [0x8B4, 0x81C]) ∧
    (s.get REC_CLRSTAT_STATE = 1 → s.get REC_CLRSTAT_OWNER ≠ Init.code i → Runs (.clrResp i lo hi) s (failed · 2)) ∧
    (s.get REC_CLRSTAT_STATE ≠ 1 → Runs (.clrResp i lo hi) s fun t => kept t ∧ t.evr = s.evr ∧ RegsKept s t [0x81C]) ∧
    (s.get REC_CLRSTAT_STATE = 2 → s.coreRuns = true →
      (s.shadow.key = none → Runs .clearCheck s (failed · 3)) ∧
      (∀ key, s.shadow.key = some key →
        let good := s.response key (s.rd 0x8A0) (s.rd 0x8A4) [] = s.evr.respL.toNat + s.evr.respH.toNat * 2 ^ 32
        (good → Runs .clearCheck s fun t => kept t ∧ t.get REC_CLRSTAT_STATE = 3 ∧ (t.pevt pageREC).testBit 3 = true ∧
          (∃ r ∈ t.recLatches, r.typ = 5 ∧ r.data.take 3 = [s.get REC_CLRSTAT_OWNER, (s.rd 0x8A0).toNat, (s.rd 0x8A4).toNat])) ∧
        (¬good → Runs .clearCheck s (failed · 1)))) ∧
    (s.get REC_CLRSTAT_STATE = 2 → s.coreRuns = false → Runs .clearTimeout s (failed · 4))

/-- REC_RECORD_WRITE, REC_FLUSH_START, REC_FLUSH, REC_HDR, REC_HEADER_PERIODIC, REC_STORE_RETRY, REC_STORE_WRITE_DONE and
REC_STARTUP complete with the buffer, the head, the header and the flags that the chapter gives. (R411, R416, R417, R419, R420,
R421, R422, R423, R424, R425) -/
def Obligations.RecorderMovesRecordsToTheStore : Prop :=
  ∀ (s : State) (x : RecLatch) (xs : List RecLatch), s.running = true →
    (s.mode ≠ .deepSleep → s.recHeld = false → s.recLatches = x :: xs → s.flag REC_RSTAT_STOREOK = true → s.get REC_RSTAT_FILL < 256 →
      s.evr.lostNew = 0 → Runs .recRecordWrite s fun t =>
        let n := s.get REC_WSEQ_SEQ
        t.recLatches = xs ∧ t.get REC_WSEQ_SEQ = (n + 1) % 2 ^ 32 ∧ t.memWords (ringAddr n) 16 = recordWords x n ∧
        (∀ a, a < ringAddr n ∨ ringAddr n + 64 ≤ a → t.byte a = s.byte a) ∧
        (t.evr.due = true ↔ s.evr.due = true ∨ x.typ = 2 ∨ x.typ = 5 ∨ x.typ = 7 ∨ 192 ≤ t.get REC_RSTAT_FILL) ∧
        (x.typ = 5 → t.get REC_CLRSEQ_SEQ = n) ∧
        RegsKept s t ([0x834, 0x848] ++ if x.typ = 5 then [0x83C] else []) ∧
        LanesKept s t [] ∧ t.store = s.store) ∧
    (s.canFlush = true → s.evr.due = true ∨ 192 ≤ s.get REC_RSTAT_FILL → Runs .recFlushStart s fun t =>
      t.flag REC_RSTAT_FLUSHING = true ∧ t.evr.due = false ∧
      (s.get REC_WSEQ_SEQ ≠ s.get REC_FSEQ_SEQ → t.evr.job = .record) ∧ (s.get REC_WSEQ_SEQ = s.get REC_FSEQ_SEQ → t.evr.job ≠ .record) ∧
      t.evr.job ≠ .none ∧ RegsKept s t [0x848] ∧ LanesKept s t [] ∧ StoresKept s t) ∧
    (s.canFlush = true → ∀ (i : Init) (data : Word), s.Ready i →
      Runs (.recFlush i data) s (fun t => t.flag REC_RSTAT_FLUSHING = true ∧ t.evr.due = false ∧
        (s.get REC_WSEQ_SEQ ≠ s.get REC_FSEQ_SEQ → t.evr.job = .record) ∧ t.evr.job ≠ .none ∧ (data.getLsbD 1 = true → t.evr.hdrDue = true) ∧
        RegsKept s t [0x848, 0x81C] ∧ LanesKept s t [] ∧ StoresKept s t) ∧
      (data.getLsbD 0 = false → Runs (.recHdr i data) s fun t => t.evr = { s.evr with job := .header, retried := false } ∧
        RegsKept s t [0x81C] ∧ LanesKept s t [] ∧ StoresKept s t) ∧
      Runs .recHeaderPeriodic s (fun t => t = { s with evr := { s.evr with job := .header, retried := false } }) ∧
      (s.flag REC_RSTAT_STOREOK = false → Runs .recStoreRetry s fun t => t.flag REC_RSTAT_FLUSHING = true ∧ t.evr.job ≠ .none ∧
        t.flag REC_RSTAT_STOREOK = false ∧ RegsKept s t [0x848] ∧ LanesKept s t [] ∧ StoresKept s t)) ∧
    (s.evr.job = .record → s.flag REC_RSTAT_STOREOK = true → Runs (.recStoreWriteDone .matched) s fun t =>
      let n := s.get REC_FSEQ_SEQ
      let a := s.logAddr n
      t.get REC_FSEQ_SEQ = (n + 1) % 2 ^ 32 ∧ t.storeWords a 16 = s.memWords (ringAddr n) 16 ∧
      (∀ y, y < a ∨ a + 64 ≤ y → sparseGet memDflt t.store y = sparseGet memDflt s.store y) ∧ t.evr.job ≠ .none ∧ t.evr.adv = true ∧
      RegsKept s t [0x838, 0x848] ∧ LanesKept s t [] ∧ t.mem = s.mem) ∧
    (s.evr.job = .record ∨ s.evr.job = .header → Runs (.recStoreWriteDone .timedOut) s fun t => t.evr.job = .none ∧
      t.flag REC_RSTAT_FLUSHING = false ∧ (t.pevt pageREC).testBit 1 = true ∧ t.get REC_FSEQ_SEQ = s.get REC_FSEQ_SEQ ∧
      LanesKept s t [] ∧ StoresKept s t) ∧
    (s.evr.up = false → s.newestHeader = none →
      Runs (.recStartup true) s (fun t => t.evr.up = true ∧ t.flag REC_RSTAT_STOREOK = true ∧ t.evr.job = .header ∧ t.evr.hseq = 1 ∧
        t.evr.hcopy = 0 ∧ (t.pevt pageREC).testBit 5 = true ∧ t.get REC_NLOG_NLOG = nlogOf (s.get REC_CFG_SIZE) ∧ LanesKept s t []) ∧
      Runs (.recStartup false) s (fun t => t.evr = { s.evr with up := true } ∧ t.flag REC_RSTAT_ABSENT = true ∧
        RegsKept s t [0x848, 0x850] ∧ LanesKept s t [] ∧ StoresKept s t))

/-- OTP_READ starts a read; OTP_PROGRAM, OTP_FINALISE and OTP_LIFE are refused with a reason and no fuse changed, or begin with the
bits to blow. (R438, R439, R440, R441, R442, R443, R444) -/
def Obligations.ProgrammingIsRefusedOrBegun : Prop :=
  ∀ (i : Init) (s : State) (key : Byte) (r : BitVec 3) (v : Bool) (data : Word), s.Ready i →
    let kept (t : State) : Prop := LanesKept s t [] ∧ StoresKept s t
    let refused (why : Nat) (t : State) : Prop := kept t ∧ t.otpc = s.otpc ∧ t.get OTP_PGMSTAT_RESULT = 2 ∧
      t.get OTP_PGMSTAT_REASON = why ∧ (t.pevt pageOTP).testBit 4 = true ∧ RegsKept s t [0x638, 0x610, 0x618, 0x61C]
    let begun (op word : Nat) (t : State) : Prop := kept t ∧ t.otpc.op = op ∧ t.flag OTP_PGMSTAT_BUSY = true ∧
      t.get OTP_PGMSTAT_WORD = word ∧ RegsKept s t [0x638, 0x61C]
    (∀ c ∈ [Instr.otpProgram i key v, .otpFinalise i key r v, .otpLife i key r v],
      (s.otpc.op ≠ 0 → Runs c s (refused 5)) ∧
      (s.otpc.op = 0 → key ≠ 0x5A → Runs c s (refused 4)) ∧
      (s.otpc.op = 0 → key = 0x5A → s.mode ≠ .standby → Runs c s (refused 6)) ∧
      (s.otpc.op = 0 → key = 0x5A → s.mode = .standby → v = false → Runs c s (refused 3))) ∧
    (s.otpc.op = 0 → s.mode = .standby → let w := s.get OTP_PGMADDR_WORD
      (w ≠ 0x1DC → regionAllowed (otpRegion w) s.shadow.life = false → Runs (.otpProgram i 0x5A true) s (refused 1)) ∧
      (w ≠ 0x1DC → regionAllowed (otpRegion w) s.shadow.life = true → s.fuseBit 0x1DC (otpRegion w) = true →
        Runs (.otpProgram i 0x5A true) s (refused 2)) ∧
      (w ≠ 0x1DC → regionAllowed (otpRegion w) s.shadow.life = true → s.fuseBit 0x1DC (otpRegion w) = false →
        Runs (.otpProgram i 0x5A true) s fun t => begun 1 w t ∧
          ∀ p, p ∈ t.otpc.todo ↔ p.1 = w ∧ p.2 < 32 ∧ (s.rd 0x630).getLsbD p.2 = true ∧ s.fuseBit w p.2 = false) ∧
      (5 ≤ r.toNat → Runs (.otpFinalise i 0x5A r true) s (refused 1)) ∧
      ((s.planFinalise r.toNat).1 = 0 → Runs (.otpFinalise i 0x5A r true) s fun t => begun 2 (digestWord r.toNat) t ∧
        t.otpc.region = r.toNat ∧ (0x1DC, r.toNat) ∈ t.otpc.todo) ∧
      (s.fuseBit 0x1DC 5 = false → s.shadow.life = .prod → Runs (.otpLife i 0x5A 3 true) s fun t => begun 3 0x1DA t ∧
        t.otpc.todo = (List.range 8).map (fun k => (0x1DA, 16 + k))) ∧
      (s.fuseBit 0x1DC 5 = false → s.shadow.life ≠ .scrap → Runs (.otpLife i 0x5A 5 true) s fun t => begun 3 0x1DB t ∧
        t.otpc.todo = (List.range 8).map (fun k => (0x1DB, k)))) ∧
    Runs (.otpRead i data) s (fun t => kept t ∧ t.get OTP_RDADDR_WORD = data.toNat % 512 ∧ t.flag OTP_RDSTAT_BUSY = true ∧
      RegsKept s t [0x620, 0x628, 0x61C])

/-- OTP_CMD_DONE, PGM_ABORT and OTP_READ_DONE complete: the bits up to the end are blown, no other fuse changes, and the result is
reported. (R438, R440, R441, R442, R443) -/
def Obligations.ProgrammingBlowsItsBits : Prop :=
  ∀ (s : State) (k : Nat), s.running = true →
    let blown (t : State) (n : Nat) : Prop := ∀ w j, j < 32 → t.fuseBit w j = (s.fuseBit w j || decide ((w, j) ∈ s.otpc.todo.take n))
    let free (t : State) (result : Nat) : Prop := t.otpc.op = 0 ∧ t.otpc.todo = [] ∧ t.flag OTP_PGMSTAT_BUSY = false ∧
      t.get OTP_PGMSTAT_RESULT = result ∧ LanesKept s t [] ∧ t.mem = s.mem ∧ t.store = s.store
    (s.otpc.op = 1 ∨ s.otpc.op = 3 → Runs (.otpCmdDone none) s fun t => blown t s.otpc.todo.length ∧ free t 1 ∧
      (t.pevt pageOTP).testBit 3 = true ∧ RegsKept s t [0x638, 0x610, 0x618]) ∧
    (s.otpc.op ≠ 0 → k < s.otpc.todo.length → Runs (.otpCmdDone (some k)) s fun t => blown t (k + 1) ∧ free t 4 ∧
      some (t.get OTP_PGMSTAT_WORD, t.get OTP_PGMSTAT_BIT) = (s.otpc.todo[k]?).map (fun p => (p.1 % 512, p.2 % 32)) ∧
      (t.pevt pageOTP).testBit 6 = true ∧ RegsKept s t [0x638, 0x610, 0x618]) ∧
    (s.otpc.op ≠ 0 → k < s.otpc.todo.length → Runs (.pgmAbort k) s fun t => free t 3 ∧ t.pins.vqps = false ∧
      (∀ w j, j < 32 → s.otpc.todo[k]? ≠ some (w, j) → t.fuseBit w j = (s.fuseBit w j || decide ((w, j) ∈ s.otpc.todo.take k))) ∧
      (t.pevt pageOTP).testBit 5 = true ∧ RegsKept s t [0x638, 0x610, 0x618]) ∧
    (s.otpc.op = 0 → s.flag OTP_RDSTAT_BUSY = true → Runs .otpReadDone s fun t =>
      let w := s.get OTP_RDADDR_WORD
      let hidden := otpRegion w ≤ 4 ∧ s.fuseBit 0x1DC (8 + otpRegion w) = true
      t.flag OTP_RDSTAT_BUSY = false ∧ (t.flag OTP_RDSTAT_LOCKED = true ↔ hidden) ∧
      (hidden → t.rd 0x624 = 0 ∧ (t.pevt pageOTP).testBit 8 = true) ∧
      (¬hidden → w < 0x1DD → t.rd 0x624 = (if s.get OTP_RDADDR_MODE = 1 then (s.fuse w).high
        else if s.get OTP_RDADDR_MODE = 2 then (s.fuse w).low else (s.fuse w).normal)) ∧
      RegsKept s t [0x624, 0x628, 0x610, 0x618] ∧ LanesKept s t [] ∧ StoresKept s t)

/-- ULK_ENABLE and ULK_DISABLE complete in every state with the link state, sequence state and queues that the chapter gives. (R469,
R480, R481, R488, R513) -/
def Obligations.PortEnableAndDisable : Prop :=
  ∀ (i : Init) (s : State) (x : Fin 4), s.Ready i →
    let en : Fld := ⟨0x1108 + 256 * x.val, 0, 1⟩
    (s.flag en = false → s.lst x.val = 0 → Runs (.ulkEnable i x) s fun t => t.flag en = true ∧
      t.lst x.val = (if s.flag (ULK_STATE_SIGDET x.val) then 2 else 1) ∧
      t.port x.val = { s.port x.val with seen := false, tsRun := 0, ts2Run := 0, chars := 0, elastic := 0 } ∧ (∀ y, y ≠ x.val → t.port y = s.port y) ∧
      RegsKept s t [0x1108 + 256 * x.val, 0x1128 + 256 * x.val, 0x111C + 256 * x.val] ∧ LanesKept s t [] ∧ StoresKept s t) ∧
    (s.flag en = true → s.lst x.val ≠ 0 → Runs (.ulkDisable i x) s fun t => t.flag en = false ∧ t.lst x.val = 0 ∧
      (t.port x.val).replay = [] ∧ (t.port x.val).trained = false ∧ t.flag (ULK_STATE_FRESH x.val) = true ∧
      t.get (ULK_SEQ_EXPECT x.val) = 0 ∧ (∀ r ∈ t.rxq, r.port ≠ x.val) ∧ (∀ y, y ≠ x.val → t.port y = s.port y) ∧
      RegsKept s t ([0x1108 + 256 * x.val, 0x1128 + 256 * x.val, 0x1130 + 256 * x.val, 0x111C + 256 * x.val] ++
        if s.coreRuns then [0x1120 + 256 * x.val, 0x1120 + 256 * otherPort x.val] else []) ∧ LanesKept s t [] ∧ StoresKept s t)

/-- SIGNAL_DETECT, SIGLOST, LINK_TS1, LINK_TS2, TRAIN_TIMEOUT, RETRAIN_TIMEOUT, DOWN_EXIT and LINK_RETRAIN complete in each link
state with the next state, what the port sends, its events, counters and sequence state; the other ports do not move. (R472,
R477, R478, R479, R480, R481, R485, R487, R488, R491, R492) -/
def Obligations.PortsTrainAndGoDown : Prop :=
  ∀ (s : State) (p : Fin 4) (ts : TsIn) (two sent16 : Bool),
    let x := p.val
    let st := s.lst x
    let q := s.port x
    let event (t : State) (i : Nat) : Prop := (t.pevt (pageULK x)).testBit i = true
    let kept (t : State) : Prop := LanesKept s t [] ∧ StoresKept s t ∧ ∀ y, y < 4 → y ≠ x → t.lst y = s.lst y
    let goes (t : State) (n : Nat) : Prop := t.lst x = n ∧ kept t
    let down (t : State) : Prop := goes t 6 ∧ event t 2 ∧ (t.port x).replay = [] ∧ (t.port x).tags = [] ∧ (t.port x).seen = false ∧
      t.flag (ULK_STATE_FRESH x) = true ∧ t.get (ULK_STATE_CREDIT x) = 0 ∧ t.get (ULK_SEQ_NEXTTX x) = 0 ∧
      t.get (ULK_SEQ_ACKED x) = 255 ∧ t.get (ULK_SEQ_EXPECT x) = 0 ∧ (∀ r ∈ t.rxq, r.port ≠ x) ∧ t.get RST_LAST_CODE = 9 ∧
      (s.frz (pageULK x) = false → t.get (ULK_LNKCNT_DOWNCNT x) = min (s.get (ULK_LNKCNT_DOWNCNT x) + 1) 255)
    let sig := s.flag (ULK_STATE_SIGDET x)
    let c := if two then Instr.linkTs2 p ts sent16 else Instr.linkTs1 p ts
    let valid : Prop := lineClean ts.err = true ∧ ts.chk = true ∧ ts.ver = 1
    let seen := q.seen || decide (8 ≤ q.tsRun + 1)
    let full : Prop := two = true ∧ 8 ≤ q.ts2Run + 1
    s.running = true →
    (st = 1 → Runs (.signalDetect p) s fun t => goes t 2 ∧ t.flag (ULK_STATE_SIGDET x) = true ∧ (t.port x).seen = false ∧
      (t.port x).chars = 0 ∧ (t.port x).elastic = 0) ∧
    (st ≠ 1 → Runs (.signalDetect p) s fun t => goes t st ∧ t.flag (ULK_STATE_SIGDET x) = true) ∧
    (s.alive = true →
      (st = 4 ∨ st = 5 ∨ (st = 3 ∧ q.trained = true) → Runs (.siglost p) s fun t => down t ∧ event t 9 ∧ t.flag (ULK_STATE_SIGDET x) = false) ∧
      (st = 2 ∨ (st = 3 ∧ q.trained = false) → Runs (.siglost p) s fun t => goes t 1 ∧ event t 9 ∧ t.flag (ULK_STATE_SIGDET x) = false) ∧
      (st = 0 ∨ st = 1 ∨ st = 6 → Runs (.siglost p) s fun t => goes t st ∧ (st ≠ 0 → event t 9) ∧ t.flag (ULK_STATE_SIGDET x) = false)) ∧
    (valid → st = 2 → Runs c s fun t => goes t (if seen = true ∧ ts.seen = true then 3 else 2) ∧ (t.port x).seen = seen ∧
      t.flag (ULK_STATE_RXINV x) = ts.inverted) ∧
    (valid → st = 3 → full → sent16 = true → two = true →
      let mis := ts.port.toNat != otherPort x
      let stale : Prop := ts.fresh = true ∧ (q.replay ≠ [] ∨ q.rxd = true)
      Runs c s fun t => t.get (ULK_PARTNER_ADDR x) = ts.addr.toNat ∧ t.get (ULK_PARTNER_PORT x) = ts.port.toNat ∧
        t.flag (ULK_PARTNER_VALID x) = true ∧ t.flag (ULK_PARTNER_MISWIRE x) = mis ∧ event t 0 ∧ (mis = true → event t 6) ∧
        (stale → down t) ∧
        (¬stale → goes t 4 ∧ (t.port x).trained = true ∧ (t.port x).items = [.ack (s.lastSeq x) (s.credit x)] ∧
          t.flag (ULK_STATE_FRESH x) = false)) ∧
    (valid → st = 3 → ¬(full ∧ sent16 = true) → Runs c s fun t => goes t 3) ∧
    (valid → st = 5 → ts.fresh = true → Runs c s down) ∧
    (valid → st = 5 → ts.fresh = false → full → Runs c s fun t => goes t 4 ∧ (t.port x).rounds = 0 ∧
      (t.port x).items = q.replay.map (fun r => .packet r.1 r.2) ∧ (t.port x).replay = q.replay) ∧
    (valid → st = 5 → ts.fresh = false → ¬full → Runs c s fun t => goes t 5) ∧
    (¬valid → 2 ≤ st → st ≤ 5 → Runs c s fun t => goes t st ∧ (t.port x).tsRun = 0 ∧ (t.port x).ts2Run = 0) ∧
    (st < 2 ∨ 5 < st → Runs c s fun t => goes t st ∧ (t.port x).seen = q.seen) ∧
    (st = 2 ∨ st = 3 → Runs (.trainTimeout p) s fun t => goes t 1 ∧ (t.port x).seen = false ∧
      (s.frz (pageULK x) = false → t.get (ULK_LNKCNT_TOCNT x) = min (s.get (ULK_LNKCNT_TOCNT x) + 1) 255)) ∧
    (st = 5 → Runs (.retrainTimeout p) s down) ∧
    (st = 6 → Runs (.downExit p) s fun t => goes t (if sig then 2 else 1) ∧ (t.port x).seen = false) ∧
    (∀ err, st = 4 → Runs (.linkRetrain p err) s fun t => goes t 5 ∧ (t.port x).ts2Run = 0 ∧ event t 1 ∧
      (s.frz (pageULK x) = false → t.get (ULK_LNKCNT_RETRAINS x) = min (s.get (ULK_LNKCNT_RETRAINS x) + 1) 255 ∧
        t.get (ULK_ERRCNT_CVCNT x) = min (s.get (ULK_ERRCNT_CVCNT x) + err.cv) 255 ∧
        t.get (ULK_ERRCNT_DISPCNT x) = min (s.get (ULK_ERRCNT_DISPCNT x) + err.disp) 255))

/-- LINK_ACK, LINK_NAK, REPLAY_TO, NAK_RESEND and ACK_TIMER complete: packets up to the SEQ are freed, the rest are sent again in
SEQ order, and too many rounds retrain; a damaged frame is only counted. (R473, R484, R485, R486, R487, R491) -/
def Obligations.LinkControlFramesAct : Prop :=
  ∀ (s : State) (p : Fin 4) (f : LcfIn),
    let x := p.val
    let q := s.port x
    let seq := f.seq.toNat
    let known := q.replay.any (fun r => r.1 == seq)
    let left := if known then (q.replay.dropWhile (fun r => r.1 != seq)).drop 1 else q.replay
    let rounds := if known then 0 else q.rounds
    let clean : Prop := lineClean f.err = true ∧ f.crcOk = true
    let kept (t : State) : Prop := LanesKept s t [] ∧ StoresKept s t ∧ t.rxq = s.rxq ∧ t.link = s.link
    let max_ := max 1 (s.get (ULK_TIMING_MAXREPLAY x))
    let acked (t : State) : Prop := (t.port x).replay = left ∧
      t.get (ULK_SEQ_ACKED x) = (if known then seq else s.get (ULK_SEQ_ACKED x)) ∧
      t.get (ULK_STATE_CREDIT x) = (if known = true ∨ seq = s.get (ULK_SEQ_ACKED x) then f.credit.toNat else s.get (ULK_STATE_CREDIT x))
    let resent (t : State) (ps : List (Nat × Packet)) (r : Nat) : Prop :=
      (t.port x).items = ps.map (fun y => .packet y.1 y.2) ∧ (t.port x).rounds = (if ps = [] then r else r + 1) ∧
        t.lst x = (if max_ ≤ (if ps = [] then r else r + 1) then 5 else 4)
    s.running = true → s.lst x = 4 →
    (clean → Runs (.linkAck p f) s (fun t => acked t ∧ (t.port x).rounds = rounds ∧ (t.port x).out = [] ∧ t.lst x = 4 ∧ kept t) ∧
      Runs (.linkNak p f) s (fun t => acked t ∧ resent t left rounds ∧ (t.pevt (pageULK x)).testBit 4 = true ∧ kept t ∧
        (s.frz (pageULK x) = false → t.get (ULK_NAKCNT_NAKRX x) = min (s.get (ULK_NAKCNT_NAKRX x) + 1) 255))) ∧
    (¬clean → ∀ c ∈ [Instr.linkAck p f, .linkNak p f], Runs c s fun t => t.port x = { q with out := [], elastic := f.err.skps.foldl elasticSkp q.elastic } ∧
      t.rd (ULK_STATE_ST x).addr = s.rd (ULK_STATE_ST x).addr ∧ t.rd (ULK_SEQ_ACKED x).addr = s.rd (ULK_SEQ_ACKED x).addr ∧
      (s.frz (pageULK x) = false → t.get (ULK_ERRCNT_LCFCNT x) = min (s.get (ULK_ERRCNT_LCFCNT x) + 1) 255) ∧ kept t) ∧
    (q.replay ≠ [] → Runs (.replayTo p) s fun t => resent t q.replay q.rounds ∧ (t.port x).replay = q.replay ∧
      (t.pevt (pageULK x)).testBit 5 = true ∧ kept t) ∧
    (q.nakOut = true → Runs (.nakResend p) s fun t => (t.port x).items = [.nak (s.lastSeq x) (s.credit x)] ∧ (t.port x).nakOut = true ∧
      t.lst x = 4 ∧ kept t ∧
      (s.frz (pageULK x) = false → t.get (ULK_NAKCNT_NAKTX x) = min (s.get (ULK_NAKCNT_NAKTX x) + 1) 255)) ∧
    (0 < q.ackCnt → Runs (.ackTimer p) s fun t => (t.port x).items = [.ack (s.lastSeq x) (s.credit x)] ∧ (t.port x).ackCnt = 0 ∧
      t.lst x = 4 ∧ kept t)

/-- PACKET_TRANSMIT and HOLD_DROP complete: the packet is numbered, kept for replay and sent last, with a SKP where the next would
otherwise come too late; a packet that would turn twice is
dropped; HOLDTO drops the oldest packet with no way. (R476, R486, R489, R491, R504, R521) -/
def Obligations.PacketsAreSentInOrder : Prop :=
  ∀ (s : State) (p : Fin 4) (ahead : Nat),
    let x := p.val
    let q := s.port x
    let n := s.get (ULK_SEQ_NEXTTX x)
    let cleared (t : State) : Prop := t = { s with ports := t.ports } ∧ ∀ y, t.port y = { s.port y with out := [] }
    let kept (t : State) : Prop := LanesKept s t [] ∧ StoresKept s t ∧ t.rxq = s.rxq
    s.running = true →
    ((∀ o ∈ s.outbox, (s.leaves o).2 = false) → s.lst x = 4 →
      (s.txRoom x = false → Runs (.packetTransmit p ahead) s cleared) ∧
      (takeFirst (fun o => (s.leaves o).1 == some x) s.outbox = none → Runs (.packetTransmit p ahead) s cleared) ∧
      (∀ o rest, s.txRoom x = true → takeFirst (fun o => (s.leaves o).1 == some x) s.outbox = some (o, rest) →
        let turned := o.port != x
        let sent : Packet := { stampOut o.pkt (s.time.ptime * 256 + ahead) with wrapped := o.pkt.wrapped || turned }
        Runs (.packetTransmit p ahead) s fun t => (t.port x).replay = q.replay ++ [(n, sent)] ∧
          (t.port x).items.getLast? = some (.packet n sent) ∧ (q.chars ≤ 1024 → (t.port x).chars ≤ 1020) ∧
            t.get (ULK_SEQ_NEXTTX x) = (n + 1) % 256 ∧ rest <+: t.outbox ∧
          (s.frz (pageULK x) = false → t.get (ULK_TXPKT_COUNT x) = (s.get (ULK_TXPKT_COUNT x) + 1) % 2 ^ 32) ∧
          (turned = true → t.flag (ULK_STATE_WRAP o.port) = true ∧
            (s.flag (ULK_STATE_WRAP o.port) = false → o.port < 4 → (t.pevt (pageULK o.port)).testBit 7 = true)) ∧
          t.flag (ULK_STATE_FRESH x) = false ∧ kept t)) ∧
    (s.lst x = 4 → ∀ o ∈ s.outbox, (s.leaves o).2 = true → Runs (.packetTransmit p ahead) s fun t => o ∉ t.outbox ∧ kept t ∧
      (o.port < 4 → (t.pevt (pageULK o.port)).testBit 8 = true)) ∧
    (let stuck (o : OutPkt) : Bool := o.port == x && (s.leaves o).1.isNone && !(s.leaves o).2
     (∀ o rest, takeFirst stuck s.outbox = some (o, rest) → Runs (.holdDrop p) s fun t => rest <+: t.outbox ∧
        t.link = { s.link with cntHold := min 255 (s.link.cntHold + 1) } ∧ (t.pevt (pageULK x)).testBit 13 = true ∧ kept t) ∧
     (takeFirst stuck s.outbox = none → Runs (.holdDrop p) s cleared))

/-- PACKET_RECEIVED in ACTIVE completes: EXPECT, RXPKT, the receive queue, forwarding, ACK or NAK, counts and events are as the
chapter says; a packet that is turned away changes neither the queue nor EXPECT. (R482, R483, R485, R486, R491, R498, R500,
R502, R504) -/
def Obligations.ReceiverAcceptsInSequence : Prop :=
  ∀ (s : State) (p : Fin 4) (k : PacketIn),
    let x := p.val
    let q := s.port x
    let d := (k.seq.toNat + 256 - s.get (ULK_SEQ_EXPECT x)) % 256
    let intact : Prop := k.crcOk = true ∧ lineClean k.err = true ∧ k.eop = true ∧ k.lenOk = true
    let r : RxPkt := ⟨x, k.seq.toNat, s.time.ptime * 256 - k.age, k.pkt⟩
    let c := Instr.packetReceived p k
    let event (t : State) (i : Nat) : Prop := (t.pevt (pageULK x)).testBit i = true
    let kept (t : State) : Prop := LanesKept s t [] ∧ StoresKept s t ∧ t.lst x = 4
    let turnedAway (t : State) : Prop := kept t ∧ t.rxq = s.rxq ∧ t.get (ULK_SEQ_EXPECT x) = s.get (ULK_SEQ_EXPECT x)
    let accepted (t : State) : Prop := kept t ∧ t.get (ULK_SEQ_EXPECT x) = (k.seq.toNat + 1) % 256 ∧ (t.port x).nakOut = false ∧
      (t.port x).rxd = true ∧
      (s.frz (pageULK x) = false → t.get (ULK_RXPKT_COUNT x) = (s.get (ULK_RXPKT_COUNT x) + 1) % 2 ^ 32)
    let nak : LineItem := .nak (s.lastSeq x) (s.credit x)
    s.running = true → s.lst x = 4 →
    (intact → d = 0 → 0 < s.credit x →
      (txnBad k.pkt = true → Runs c s fun t => accepted t ∧ event t 10 ∧ t.rxq = s.rxq) ∧
      (txnBad k.pkt = false →
        (k.pkt.typ = 7 ∨ (k.pkt.hopAddr = true ∧ k.pkt.ttl = 1) ∨ (k.pkt.hopAddr = false ∧ k.pkt.mc = false ∧ s.forMe k.pkt = true) →
          Runs c s fun t => accepted t ∧ t.rxq = s.rxq ++ [r]) ∧
        (k.pkt.typ ≠ 7 → k.pkt.hopAddr = true → k.pkt.ttl = 0 → Runs c s fun t => accepted t ∧ event t 12 ∧ t.rxq = s.rxq ∧
          t.link.cntTtl = min 255 (s.link.cntTtl + 1)) ∧
        (k.pkt.typ ≠ 7 → k.pkt.hopAddr = true → 1 < k.pkt.ttl.toNat → k.pkt.wrapped = false → Runs c s fun t => accepted t ∧
          t.rxq = s.rxq ∧ ⟨{ k.pkt with ttl := k.pkt.ttl - 1 }, otherPort x, some (x, k.seq.toNat)⟩ ∈ t.outbox))) ∧
    (intact → d = 0 → s.credit x = 0 → Runs c s fun t => turnedAway t ∧ (t.port x).nakOut = true ∧ (t.port x).items = [nak] ∧
      (s.frz (pageULK x) = false → t.get (ULK_NAKCNT_OVRCNT x) = min (s.get (ULK_NAKCNT_OVRCNT x) + 1) 255)) ∧
    (intact → 128 ≤ d → Runs c s fun t => turnedAway t ∧ (t.port x).items = [.ack (s.lastSeq x) (s.credit x)] ∧ (t.port x).ackCnt = 0) ∧
    (¬intact ∨ (0 < d ∧ d < 128) → Runs c s fun t => turnedAway t ∧ (t.port x).nakOut = true ∧
      (t.port x).items = (if q.nakOut then [] else [nak]) ∧ (k.crcOk = false → event t 3))

/-- LINK_RD_REQUEST, LINK_WR_REQUEST, LINK_WRN_REQUEST, LINK_BCAST, LINK_FENCE_REQUEST, LINK_SUMMARY and EVENT_MESSAGE complete: the
packet leaves the queue, the access is made or reported as an address error, and the completion with its status and data is
queued on the route. (R113, R121, R495, R498, R501, R503, R506, R507) -/
def Obligations.RequestsAreServedAndAnswered : Prop :=
  ∀ (s : State) (p : Fin 4) (r : RxPkt) (rest : List RxPkt),
    let x := p.val
    let k := r.pkt
    let w := wordAddr k.addr.toNat
    let b := s.lineClear.freeing (fun t => { t with rxq := rest })
    let answer (stat : BitVec 2) (ws : List Word) : Packet :=
      { blankPacket with typ := k.typ, rsp := true, stat := stat, tag := k.tag, tport := k.tport, w1 := BitVec.ofNat 32 k.src.toNat,
                         rcnt := k.rcnt, dlen := BitVec.ofNat 7 ws.length, data := ws, src := BitVec.ofNat 20 s.node }
    let answered (t : State) (stat : BitVec 2) (ws : List Word) : Prop :=
      ∀ y, s.route k.src.toNat = some y → ⟨answer stat ws, y, none⟩ ∈ t.outbox
    let kept (t : State) : Prop := t.rxq = rest ∧ LanesKept s t [] ∧ StoresKept s t
    let writes : List (BitVec 4 × Instr) := [(2, .linkWrRequest p), (3, .linkWrnRequest p), (5, .linkBcast p)]
    s.running = true → takeFirst (fun y => y.port == x) s.rxq = some (r, rest) → k.rsp = false →
    (k.typ = 1 →
      let o := b.burstRead (.u p) (k.rcnt.toNat + 1) k.addr.toNat
      (k.rcnt = 0 → readable w = true → 0x10000 ≤ w → o.1 = [s.memWord w] ∧ o.2.1 = false) ∧
      Runs (.linkRdRequest p) s fun t => kept t ∧ answered t (if o.2.1 then 1 else 0) o.1 ∧
        (o.2.1 = true → (t.pevt (pageULK x)).testBit 11 = true)) ∧
    (∀ c ∈ writes, k.typ = c.1 → ∀ v, k.data = [v] →
      (regionOf w = .recipe → Runs c.2 s fun t => t.rxq = rest ∧ LanesKept s t [] ∧ t.memWord w = v ∧
        (∀ a, a < w ∨ w + 4 ≤ a → t.byte a = s.byte a) ∧ t.store = s.store ∧ t.otp = s.otp ∧ (k.typ = 3 → answered t 0 [])) ∧
      (writable w = false → Runs c.2 s fun t => kept t ∧ (t.pevt (pageULK x)).testBit 11 = true ∧ (k.typ = 3 → answered t 1 []))) ∧
    (k.typ = 4 →
      ((s.rxq.head?.map (fun y => y.port)) = some x → Runs (.linkFenceRequest p) s fun t => kept t ∧ answered t 0 []) ∧
      ((s.rxq.head?.map (fun y => y.port)) ≠ some x → Runs (.linkFenceRequest p) s fun t => t = s.lineClear)) ∧
    (k.typ = 6 →
      let src := k.src.toNat % 2 ^ 18
      addrZone src = addrZone s.link.addr → addrShelf src = addrShelf s.link.addr → Runs (.linkSummary p) s fun t => kept t ∧
        t.link = { s.link with sums := if s.link.shead then
          (sumSplit k.data).foldl (fun m e => sumAdd (addrDev (e.getD 0 0).toNat) e m) s.link.sums else s.link.sums }) ∧
    (k.typ = 9 → Runs (.eventMessage p) s fun t => kept t ∧ t.link = s.link ∧ t.core = s.core ∧ t.outbox = s.outbox ∧ t.ptm = s.ptm)

/-- COMPLETION_RECEIVED and TAG_TIMEOUT complete: an unknown tag is counted, a blocking service returns with the status and an RD
with its data, a walk ends open. (R394, R501, R512) -/
def Obligations.CompletionsAndTimeoutsEndRequests : Prop :=
  ∀ (s : State) (p : Fin 4),
    let x := p.val
    s.running = true →
    (∀ (r : RxPkt) (rest : List RxPkt), takeFirst (fun y => y.port == x) s.rxq = some (r, rest) → r.pkt.rsp = true →
      let k := r.pkt
      let y := k.tport.toNat
      (takeFirst (fun (u : TagUse) => u.tag == k.tag.toNat) (s.port y).tags = none → Runs (.completionReceived p) s fun t =>
        t.rxq = rest ∧ t.link.cntLate = min 255 (s.link.cntLate + 1) ∧ (t.pevt (pageULK x)).testBit 14 = true ∧ t.core = s.core ∧
        LanesKept s t [] ∧ StoresKept s t) ∧
      (∀ u left w, takeFirst (fun (u : TagUse) => u.tag == k.tag.toNat) (s.port y).tags = some (u, left) → u.walk = false →
        s.core.wait = some w → w.port = y → w.tag = k.tag.toNat → Runs (.completionReceived p) s fun t =>
          t.rxq = rest ∧ (t.port y).tags = left ∧ t.core = { s.core with a0 := BitVec.ofNat 32 k.stat.toNat, wait := none } ∧
          LanesKept s t [] ∧ t.store = s.store ∧ t.otp = s.otp ∧
          t.mem = (if w.kind = 1 ∧ k.stat ≠ 2 then writeWordsOf s.mem w.buf k.data else s.mem))) ∧
    (∀ tag : BitVec 7,
      (takeFirst (fun (u : TagUse) => u.tag == tag.toNat) (s.port x).tags = none → Runs (.tagTimeout p tag) s fun t => t = s.lineClear) ∧
      (∀ u left, takeFirst (fun (u : TagUse) => u.tag == tag.toNat) (s.port x).tags = some (u, left) →
        Runs (.tagTimeout p tag) s fun t => (t.port x).tags = left ∧ t.link.cntTo = min 255 (s.link.cntTo + 1) ∧
          LanesKept s t [] ∧ StoresKept s t ∧
          (u.walk = true → t.core = s.core ∧ ∀ w, s.link.walk = some w → w.ended = none → t.link.walk = some { w with ended := some false }) ∧
          (∀ w, u.walk = false → s.core.wait = some w → w.port = x → w.tag = u.tag → t.core = { s.core with a0 := 3, wait := none })))

/-- SVC_LINK_RD, SVC_LINK_WR, SVC_LINK_WRN, SVC_LINK_FENCE, SVC_TAB_READ, SVC_TAB_WRITE and SVC_WALK complete with the status for
busy, bad arguments and no route, and otherwise with their effect. (R394, R496, R501, R504, R512) -/
def Obligations.SupervisorServicesReturn : Prop :=
  ∀ (s : State) (q : SvcReq) (typ : BitVec 4),
    let returned (t : State) (a0 : Word) : Prop := t.core = { s.core with a0 := a0 } ∧ t.link = s.link ∧ LanesKept s t [] ∧ StoresKept s t
    let busy (h : Bool) : Prop := h = true ∨ s.core.wait.isSome = true
    let issued (t : State) (k : Packet) (kind buf y x g : Nat) : Prop := t.core = { s.core with wait := some ⟨kind, x, g, buf⟩ } ∧
      (t.port x).tags = (s.port x).tags ++ [⟨g, false⟩] ∧ LanesKept s t [] ∧ StoresKept s t ∧
      t.outbox = s.outbox ++ [⟨{ k with tag := BitVec.ofNat 7 g, tport := BitVec.ofNat 2 x, src := BitVec.ofNat 20 s.node }, y, none⟩]
    let blocks (c : Instr) (k : Packet) (kind buf : Nat) : Prop :=
      (s.svcPort k = none → Runs c s fun t => returned t 2 ∧ t.outbox = s.outbox) ∧
      (∀ y, s.svcPort k = some y →
        let x := (s.leaves ⟨k, y, none⟩).1.getD y
        (∀ g, s.freeTag x = some g → Runs c s fun t => issued t k kind buf y x g) ∧
        (s.freeTag x = none → Runs c s fun t => t = s.lineClear))
    let c := if typ = 1 then Instr.svcLinkRd q else .svcLinkWrn q
    s.svcRuns = true →
    (typ = 1 ∨ typ = 3 →
      (busy q.inHandler → Runs c s fun t => returned t 6 ∧ t.outbox = s.outbox) ∧
      (¬busy q.inHandler → svcArgsOk q = false → Runs c s fun t => returned t 5 ∧ t.outbox = s.outbox) ∧
      (¬busy q.inHandler → svcArgsOk q = true → blocks c (s.svcPacket q typ) typ.toNat q.buf.toNat)) ∧
    (svcArgsOk q = true → Runs (.svcLinkWr q) s fun t => returned t 0 ∧ ∀ y, s.svcPort (s.svcPacket q 2) = some y →
      t.outbox = s.outbox ++ [⟨{ s.svcPacket q 2 with src := BitVec.ofNat 20 s.node }, y, none⟩]) ∧
    (svcArgsOk q = false → Runs (.svcLinkWr q) s fun t => returned t 5 ∧ t.outbox = s.outbox) ∧
    (∀ (node : Word) (h : Bool),
      (busy h → Runs (.svcLinkFence node h) s fun t => returned t 6) ∧
      (¬busy h → 2 ^ 20 ≤ node.toNat → Runs (.svcLinkFence node h) s fun t => returned t 5) ∧
      (¬busy h → node.toNat < 2 ^ 20 → blocks (.svcLinkFence node h) { blankPacket with typ := 4, w1 := node } 4 0)) ∧
    (∀ off : Word, (off.toNat % 4 = 0 → off.toNat < 0x400 → Runs (.svcTabRead off) s fun t =>
        t = { s with core := { s.core with a0 := 0, a1 := s.memWord (tabBase + off.toNat) } }) ∧
      (off.toNat % 4 ≠ 0 ∨ 0x400 ≤ off.toNat → Runs (.svcTabRead off) s fun t => t = { s with core := { s.core with a0 := 5 } })) ∧
    (∀ off v : Word, let ok : Prop := off.toNat % 4 = 0 ∧ (off.toNat ≤ 0x18 ∨ (0x200 ≤ off.toNat ∧ off.toNat ≤ 0x3FC))
      (ok → Runs (.svcTabWrite off v) s fun t => t.core = { s.core with a0 := 0 } ∧ t.memWord (tabBase + off.toNat) = v ∧ t.link = s.link ∧
        (∀ a, a < tabBase + off.toNat ∨ tabBase + off.toNat + 4 ≤ a → t.byte a = s.byte a) ∧ LanesKept s t [] ∧ RegsKept s t []) ∧
      (¬ok → Runs (.svcTabWrite off v) s fun t => t = { s with core := { s.core with a0 := 5 } })) ∧
    (∀ ring : Word, (2 ≤ ring.toNat → Runs (.svcWalk ring) s fun t => returned t 5) ∧
      (ring.toNat < 2 → s.link.walk.isSome = true → Runs (.svcWalk ring) s fun t => returned t 6) ∧
      (ring.toNat < 2 → s.link.walk = none → Runs (.svcWalk ring) s fun t => t.core = { s.core with a0 := 0 } ∧
        t.link = { s.link with walk := some ⟨ring.toNat == 1, 1, [], none⟩ } ∧ LanesKept s t [] ∧ StoresKept s t))

/-- TAB_APPLY, SVC_TAB_APPLY, DEFAULT_ROLE_ASSIGN, ROLE_CLAIM and CLAIM_EXPIRE complete with the address, roles, ring sizes, ports
and claims that the table and the chapter give. (R11, R394, R469, R495, R496, R510, R511) -/
def Obligations.LinkTableComesIntoForce : Prop :=
  ∀ (s : State) (i : Init) (data : Word),
    let kept (t : State) : Prop := LanesKept s t [] ∧ StoresKept s t
    let head := (s.tab 4).testBit 0
    let taken (t : State) (by_ : Init) : Prop := kept t ∧ t.link.applyCnt = (s.link.applyCnt + 1) % 256 ∧ t.link.addr = s.tab 0 % 2 ^ 18 ∧
      t.link.assigned = (s.tab 0).testBit 31 ∧ t.link.shead = head ∧ t.link.keyst = (head && (s.tab 4).testBit 1) ∧
      t.link.smem = bitsOf (s.tab 8) 0 7 ∧ t.link.hpos = bitsOf (s.tab 8) 8 7 ∧ t.link.zmem = bitsOf (s.tab 0xC) 0 9 ∧
      t.link.pcpos = bitsOf (s.tab 0xC) 16 9 ∧ t.link.evNode = s.tab 0x10 % 2 ^ 20 ∧ t.link.evEn = (s.tab 0x10).testBit 31 ∧
      t.link.groups = (List.range 128).map (fun g => s.tab (0x200 + 4 * g)) ∧
      t.link.foreignApply = (s.link.foreignApply || by_ != .core) ∧
      (∀ x ∈ [2, 3], head ≠ s.link.shead → t.flag ⟨0x1108 + 256 * x, 0, 1⟩ = head ∧ (head = false → t.lst x = 0) ∧ (head = true → t.lst x ≠ 0)) ∧
      ((s.tab 0).testBit 31 = false → (t.pevt (pageULK 0)).testBit 15 = true)
    let a := s.link.addr
    let ready : Prop := s.link.assigned = true ∧ s.link.roleDone = false ∧ s.link.foreignApply = false ∧ s.link.asgAt + 3000000000 ≤ s.time.loc
    let vacant : Prop := addrDev a = 0 ∧ s.link.headOk = false
    let zeroShelf : Prop := addrShelf a = 0 ∧ s.link.ksOk = false
    s.running = true →
    (s.Ready i → Runs (.tabApply i data) s (taken · i)) ∧
    (s.coreRuns = true → Runs .svcTabApply s fun t => taken t .core ∧ t.core = { s.core with a0 := 0 }) ∧
    (s.coreRuns = true → ready →
      (vacant → Runs .defaultRoleAssign s fun t => t.link.roleDone = true ∧ t.link.shead = true ∧
        t.tab 4 = s.tab 4 ||| (if addrShelf a = 0 ∧ s.link.ksOk = false then 3 else 1) ∧ (zeroShelf → t.link.keyst = true) ∧
        t.link.applyCnt = (s.link.applyCnt + 1) % 256 ∧ LanesKept s t [] ∧ t.store = s.store ∧ t.otp = s.otp) ∧
      (¬vacant → Runs .defaultRoleAssign s fun t => t = { s with link := { s.link with roleDone := true } })) ∧
    (s.coreRuns = false ∨ ¬ready → Runs .defaultRoleAssign s fun t => t = s) ∧
    Runs .claimExpire s (fun t => t = { s with link := { s.link with
      headOk := s.link.headOk && !decide (s.link.headAt + 3000000000 ≤ s.time.loc)
      ksOk := s.link.ksOk && !decide (s.link.ksAt + 3000000000 ≤ s.time.loc) } }) ∧
    (let claim (t : State) (y off : Nat) : Prop := ∃ k, ⟨k, y, none⟩ ∈ t.outbox ∧ k.typ = 5 ∧ k.mc = true ∧ k.addr = BitVec.ofNat 24 (tabBase + off) ∧
       k.data = [BitVec.ofNat 32 (s.node + 2 ^ 31)]
     (s.link.shead = true → Runs .roleClaim s fun t => kept t ∧ claim t 1 0x30 ∧ t.link.headNode = s.node ∧ t.link.headOk = true ∧
        t.link.headAt = s.time.loc ∧ t.link.shead = true ∧ (s.link.keyst = true → claim t 1 0x34 ∧ claim t 3 0x34 ∧
          t.link.ksNode = s.node ∧ t.link.ksOk = true ∧ t.link.ksAt = s.time.loc)) ∧
     (s.link.shead = false → Runs .roleClaim s fun t => t = s))

/-- SUMMARY_SEND, SUMMARY_FORWARD, RING_WALK_START and RING_WALK_DONE complete with the collection, the packets, the walk and the
table fields that the chapter gives. (R507, R512, R513, R394) -/
def Obligations.SummariesAndWalksRun : Prop :=
  ∀ (s : State) (zone : Bool),
    let kept (t : State) : Prop := LanesKept s t [] ∧ StoresKept s t
    let summary (t : State) (node : Nat) (ws : List Word) : Prop := ∀ y, s.route (node % 2 ^ 32 % 2 ^ 20) = some y →
      ∃ k, ⟨k, y, none⟩ ∈ t.outbox ∧ k.typ = 6 ∧ k.mc = false ∧ k.w1 = BitVec.ofNat 32 node ∧ k.data = ws ∧ k.src = BitVec.ofNat 20 s.node
    let ws := s.summaryWords
    s.running = true →
    (s.link.assigned = true → s.frame % 1000 = 0 →
      (s.link.shead = true → Runs .summarySend s fun t => kept t ∧
        t.link = { s.link with sums := (sumSplit ws).foldl (fun m e => sumAdd (addrDev (e.getD 0 0).toNat) e m) s.link.sums }) ∧
      (s.link.shead = false → Runs .summarySend s fun t => kept t ∧ t.link = s.link ∧
        summary t (s.link.addr / 64 * 64 + (s.link.hpos - 1) % 64) ws)) ∧
    (s.link.assigned = false ∨ s.frame % 1000 ≠ 0 → Runs .summarySend s fun t => t = s.lineClear) ∧
    (s.link.shead = true → s.frame % 1000 = 500 → Runs .summaryForward s fun t => kept t ∧ t.link = { s.link with sums := [] } ∧
      ∀ g ∈ sumPack 8 (s.link.sums.map (·.2)),
        (s.link.keyst = true → summary t (2 ^ 19 + s.link.addr / 2 ^ 14 * 2 ^ 14) g) ∧
        (s.link.keyst = false → s.link.ksOk = true → summary t s.link.ksNode g)) ∧
    (s.link.shead = false ∨ s.frame % 1000 ≠ 500 → Runs .summaryForward s fun t => t = s.lineClear) ∧
    (s.coreRuns = true →
      (s.link.walk = none → (zone = true → s.link.shead = true) → Runs (.ringWalkStart zone) s fun t => kept t ∧
        t.link = { s.link with walk := some ⟨zone, 1, [], none⟩ } ∧
        (let y := if zone then 3 else 1
         ∀ g, s.freeTag ((s.leaves ⟨blankPacket, y, none⟩).1.getD y) = some g → ∃ k, t.outbox = s.outbox ++ [⟨k, y, none⟩] ∧
           k.typ = 1 ∧ k.hopAddr = true ∧ k.ttl = 1 ∧ k.addr = 0x20 ∧ k.tag = BitVec.ofNat 7 g)) ∧
      (∀ w, s.link.walk = some w →
        let m := w.got.length
        let off := if w.zone then 0xC else 8
        let n := if w.zone then 9 else 7
        let base := if w.zone then 2 else 0
        (w.ended = some true → Runs .ringWalkDone s fun t => t.link.walk = none ∧ t.flag (ULK_CFG_WRAPEN base) = true ∧
          t.flag (ULK_CFG_WRAPEN (base + 1)) = true ∧ LanesKept s t [] ∧ t.store = s.store ∧ t.otp = s.otp ∧
          bitsOf (t.tab off) 0 n = (if bitsOf (s.tab off) 0 n = 0 then m % 2 ^ n else bitsOf (s.tab off) 0 n) ∧
          (bitsOf (s.tab off) 0 n = 0 → t.link.applyCnt = (s.link.applyCnt + 1) % 256)) ∧
        (w.ended = some false → Runs .ringWalkDone s fun t => t = { s with link := { s.link with walk := none } }) ∧
        (w.ended = none → Runs .ringWalkDone s fun t => t = s)))

/-- PTM_STEP, PTM_ACQ, PTM_SETT and BAR_SEND complete with the plant-time state, the waiting step and the packet that the chapter
gives, from the fields in force since the last boundary. (R524, R525, R527, R530, R533) -/
def Obligations.PlantTimeCommandsAct : Prop :=
  ∀ (i : Init) (s : State), s.Ready i →
    let kept (t : State) : Prop := LanesKept s t [] ∧ StoresKept s t ∧ t.time = s.time
    (s.getI PTM_STEPK_K ≠ 0 → 1 ≤ s.ptSt → s.ptSt ≤ 3 → Runs (.ptmStep i) s fun t => kept t ∧ t.ptSt = 1 ∧
      t.ptm.step = some (.by_ (s.getI PTM_STEPK_K)) ∧ RegsKept s t [0x152C, 0x1510, 0x1518, 0x151C]) ∧
    (s.getI PTM_STEPK_K = 0 ∨ s.ptSt = 0 ∨ 4 ≤ s.ptSt → Runs (.ptmStep i) s fun t => kept t ∧ t.ptm = s.ptm ∧ RegsKept s t [0x151C]) ∧
    (s.ptSt ≠ 4 → s.ptSt ≠ 0 → Runs (.ptmAcq i) s fun t => kept t ∧ t.ptSt = 0 ∧ t.ptm.i = 0 ∧ t.ptm.f = 0 ∧
      t.ptm.bars = s.ptm.bars ∧ t.ptm.step = s.ptm.step ∧ RegsKept s t [0x152C, 0x1510, 0x1518, 0x151C]) ∧
    (s.ptSt = 5 → Runs (.ptmSett i) s fun t => kept t ∧
      t.ptm = { s.ptm with step := some (.to ((s.ptIn PTM_PTSETL_T + s.ptIn PTM_PTSETH_T * 2 ^ 32) / 10000)) } ∧ RegsKept s t [0x151C]) ∧
    (s.ptSt ≠ 5 → Runs (.ptmSett i) s fun t => kept t ∧ t.ptm = s.ptm ∧ RegsKept s t [0x151C]) ∧
    (let due := s.ptIn PTM_BRTL_T + s.ptIn PTM_BRTH_T * 2 ^ 32
     (0 < due → s.ptm.bars.length < 16 → Runs (.barSend i) s fun t => kept t ∧
        t.ptm = { s.ptm with bars := s.ptm.bars ++
          [⟨s.ptIn PTM_BRGRP_BGRP, (due + 9999) / 10000, s.time.loc, decide (s.ptSt ≤ 1)⟩] } ∧
        t.get PTM_BARQ_PEND = s.ptm.bars.length + 1 ∧ (t.pevt pagePTM).testBit 7 = true ∧
        (∃ o, t.outbox[s.outbox.length]? = some o ∧ o.pkt.typ = 8 ∧ o.pkt.mc = true ∧ o.pkt.dlen = 4 ∧ o.port = 1 ∧
          ((o.pkt.data.getD 0 0).toNat % 65536 = s.ptIn PTM_BRGRP_BGRP) ∧
          o.pkt.data.drop 1 = [BitVec.ofNat 32 due, BitVec.ofNat 32 (due / 2 ^ 32), 0]) ∧
        RegsKept s t [0x1564, 0x1510, 0x1518, 0x151C]) ∧
     (0 < due → 16 ≤ s.ptm.bars.length → Runs (.barSend i) s fun t => kept t ∧ t.ptm = s.ptm ∧ (t.pevt pagePTM).testBit 9 = true ∧
        t.outbox.length > s.outbox.length ∧ RegsKept s t [0x1510, 0x1518, 0x151C]))

/-- TIMESYNC_REQ, TIMESYNC_RSP and BARRIER_MESSAGE complete: the answer echoes and stamps, a valid response sets offset, delay and
hops, an invalid one is only counted, and a barrier is queued or refused when 16 wait. (R520, R521, R522, R524, R528, R529,
R533, R534) -/
def Obligations.PlantTimeMessagesAct : Prop :=
  ∀ (s : State) (p : Fin 4) (r : RxPkt) (rest : List RxPkt),
    let x := p.val
    let d := r.pkt.data
    let w0 := (d.getD 0 0).toNat
    let word (k : Nat) : Word := d.getD k 0
    let kept (t : State) : Prop := t.rxq = rest ∧ LanesKept s t [] ∧ StoresKept s t
    s.running = true → takeFirst (fun y => y.port == x) s.rxq = some (r, rest) →
    (timesync 1 r.pkt = true → Runs (.timesyncReq p) s fun t => kept t ∧ t.ptm = s.ptm ∧ ∃ k, t.outbox = s.outbox ++ [⟨k, x, none⟩] ∧
      k.typ = 7 ∧ k.ttl = 1 ∧ k.dlen = 8 ∧ k.hopAddr = false ∧ (k.data.getD 0 0).toNat % 16 = 2 ∧
      bitsOf (k.data.getD 0 0).toNat 8 8 = bitsOf w0 8 8 ∧ bitsOf (k.data.getD 0 0).toNat 16 3 = s.ptSt ∧
      k.data.getD 1 0 = word 1 ∧ k.data.getD 2 0 = word 2 ∧ k.data.getD 3 0 = BitVec.ofNat 32 (r.stamp.toNat / 256) ∧
      k.data.getD 4 0 = BitVec.ofNat 32 (r.stamp.toNat / 256 / 2 ^ 32)) ∧
    (timesync 2 r.pkt = true →
      let t1 := stampOf d 1 0
      let t2 := stampOf d 3 1
      let t3 := stampOf d 5 2
      let th := (t1 - t2) + (r.stamp - t3) + s.ptInI (PTM_ASYM_ASYM x) * 16
      let dl := (t2 - t1) + (r.stamp - t3)
      let st := bitsOf w0 16 3
      let valid : Prop := (∃ tAt, s.ptm.req = some (x, tAt) ∧ s.time.loc ≤ tAt + 1000000) ∧ bitsOf w0 8 8 = s.ptm.seqn ∧
        2 ≤ st ∧ st ≤ 5 ∧ 0 ≤ dl ∧ dl ≤ 1200 * 512
      (valid → Runs (.timesyncRsp p) s fun t => kept t ∧ t.ptm.req = none ∧ t.ptm.since = s.time.loc ∧
        t.getI PTM_OFFSET_THETA = satI 32 (divRound th 16) ∧ t.getI PTM_DELAY_D = divRound dl 16 ∧
        t.get PTM_STAT_HOPS = min 255 (bitsOf w0 24 8 + 1) ∧ (s.ptSt = 0 → t.ptSt = 1) ∧ absI t.ptm.f ≤ max (absI s.ptm.f) s.slewMax) ∧
      (¬valid → Runs (.timesyncRsp p) s fun t => kept t ∧ t.ptm = { s.ptm with req := none } ∧ (t.pevt pagePTM).testBit 6 = true ∧
        t.ptSt = s.ptSt ∧ (s.frz pagePTM = false → t.get PTM_CNT_BADSYNC = min (s.get PTM_CNT_BADSYNC + 1) 255))) ∧
    (request 8 r.pkt = true →
      (s.ptm.bars.length < 16 → Runs (.barrierMessage p) s fun t => kept t ∧ (t.pevt pagePTM).testBit 7 = true ∧
        t.get PTM_BARQ_PEND = s.ptm.bars.length + 1 ∧ t.ptm = { s.ptm with bars := s.ptm.bars ++
          [⟨w0 % 65536, ((word 1).toNat + (word 2).toNat * 2 ^ 32 + 9999) / 10000, s.time.loc, decide (s.ptSt ≤ 1)⟩] }) ∧
      (16 ≤ s.ptm.bars.length → Runs (.barrierMessage p) s fun t => kept t ∧ (t.pevt pagePTM).testBit 9 = true ∧ t.ptm = s.ptm))

/-- TIMESYNC_REQ_SEND, PT_LOST, PT_STEP, BARRIER_RELEASE and SCHEDULE_SEND complete with the packet, the state, the new frame count,
the released channels and the schedule count that the chapter gives; PT_STEP and BARRIER_RELEASE act at the boundary that follows,
which is the model's choice (assumption 67). (R239, R519, R521, R524, R525, R528, R529, R530, R531,
R533, R534) -/
def Obligations.PlantTimeTimersAct : Prop :=
  ∀ (s : State),
    let kept (t : State) : Prop := LanesKept s t [] ∧ StoresKept s t
    let event (t : State) (i : Nat) : Prop := (t.pevt pagePTM).testBit i = true
    let b0 := s.toBoundary
    let b := b0.ptStepNow
    let n := b.frame
    let loc := b.time.loc
    let due := s.ptm.bars.filter (fun b => barDue b loc n)
    let ticks : Prop := s.flag CLK_STAT_RELOCKING = false
    s.running = true →
    (∀ x, s.ptParent = some x → Runs .timesyncReqSend s fun t => kept t ∧
      t.ptm = { s.ptm with seqn := (s.ptm.seqn + 1) % 256, req := some (x, s.time.loc) } ∧
      ∃ k, t.outbox = s.outbox ++ [⟨k, x, none⟩] ∧ k.typ = 7 ∧ k.ttl = 1 ∧ (k.data.getD 0 0).toNat % 16 = 1 ∧
        bitsOf (k.data.getD 0 0).toNat 8 8 = (s.ptm.seqn + 1) % 256) ∧
    (s.ptParent = none → Runs .timesyncReqSend s fun t => t = s.lineClear) ∧
    (let late := s.ptm.since + max 1 (s.ptIn PTM_CFG_SYNCLOSS) * s.syncPer * 100000 ≤ s.time.loc
     (s.ptSt = 1 ∨ s.ptSt = 2 → late → Runs .ptLost s fun t => kept t ∧ t.ptSt = 3 ∧ event t 2 ∧ (s.ptSt = 2 → event t 1) ∧
        t.ptm.f = s.ptm.f ∧ t.ptm.i = s.ptm.i ∧
        (s.frz pagePTM = false → t.get PTM_CNT_LOSTCNT = min (s.get PTM_CNT_LOSTCNT + 1) 255)) ∧
     (¬(s.ptSt = 1 ∨ s.ptSt = 2) ∨ ¬late → Runs .ptLost s fun t => t = s)) ∧
    (s.clk.due = false → s.time.cyc < 2000 → b0.time = ⟨s.time.ptime + 5 * (2000 - s.time.cyc), 0, s.time.loc + 5 * (2000 - s.time.cyc)⟩) ∧
    (∀ k, s.ptm.step = some k → ticks → Runs .ptStep s fun t => t.ptm.step = none ∧ t.getI PTM_STEPK_K = 0 ∧ event t 3 ∧ t.clk.due = true ∧
      t.time = { b0.time with ptime := b0.time.ptime % 10000 + (match k with | .by_ d => ((b0.frame : Int) + d).toNat | .to f => f) * 10000 } ∧
      (∀ l ∈ s.leads, (t.lane l).swp.marks = (s.lane l).swp.marks ||| 128) ∧ t.store = s.store ∧ t.otp = s.otp ∧
      (s.frz pagePTM = false → t.get PTM_CNT_JUMPS = min (s.get PTM_CNT_JUMPS + 1) 255)) ∧
    (s.ptm.step = none ∨ ¬ticks → Runs .ptStep s fun t => t = s) ∧
    (∀ b, due.getLast? = some b → ticks → Runs .barrierRelease s fun t => t.store = s.store ∧ t.otp = s.otp ∧ t.clk.due = true ∧
      t.ptm.bars = s.ptm.bars.filter (fun b => !barDue b loc n) ∧ t.ptm.step = none ∧ t.get PTM_BARQ_PEND = t.ptm.bars.length % 32 ∧
      t.get PTM_LASTBAR_BGRP = b.grp % 65536 ∧ t.get PTM_LASTBARF_FRAME = n % 2 ^ 32 ∧
      (∀ b ∈ due, b.due < n → event t 8) ∧ (∀ b ∈ due, b.noref = true → event t 10) ∧
      ∀ b ∈ due, ∀ l ∈ s.leads, (s.eng l).st = .barrier → (recW (s.eng l).recd 1 % 65536 = b.grp ∨ b.grp = 0xFFFF) → (t.eng l).next.isSome = true) ∧
    (due = [] ∨ ¬ticks → Runs .barrierRelease s fun t => t = s) ∧
    (let act (j : Nat) : Sched := s.ptm.acting.toList.getD j Sched.reset
     s.link.keyst = true → Runs .scheduleSend s fun t => kept t ∧ ∀ j, j < 8 →
      (schedDue (act j) s.barLead s.frame = none → t.sched j = s.sched j) ∧
      (∀ o tAt, schedDue (act j) s.barLead s.frame = some (o, tAt) →
        t.sched j = { s.sched j with done := min 65535 ((s.sched j).done + 1) } ∧
        ((act j).per.toNat % 2 ^ 24 = 0 ∨ o + 1 = (act j).count → event t 11) ∧
        ∃ k, ⟨k, 1, none⟩ ∈ t.outbox ∧ k.typ = 8 ∧ k.mc = true ∧ (k.data.getD 0 0).toNat % 65536 = (act j).cfg.toNat % 65536 ∧
          k.data.getD 1 0 = BitVec.ofNat 32 tAt ∧ k.data.getD 2 0 = BitVec.ofNat 32 (tAt / 2 ^ 32))) ∧
    (s.link.keyst = false → Runs .scheduleSend s fun t => t = s)

/-- INT_STEP_DONE, INT_STEP_TIMEOUT, INT_DOWN_DONE, EXT_UP_STEP_DONE, EXT_UP_TIMEOUT, EXT_DOWN_STEP_DONE and MINOFF_DONE complete
with the state, outputs, events and failure record of each row; that MINOFF_DONE refuses a held ON request with an invalid order is
the model's choice (assumption 63). (R41, R57, R58, R60, R61, R62, R63, R64, R65, R72) -/
def Obligations.PowerSequenceAdvances : Prop :=
  ∀ s : State,
    let kept (t : State) : Prop := LanesKept s t [] ∧ StoresKept s t
    let slot := internalSlot s.psq.step
    let rail := 8 + s.psq.order.getD s.psq.step 0
    let mon := bit (s.railCfg rail) 31
    let good := bit (s.get SUP_GOOD_GOOD) rail
    (s.psq.st = .intUp → bit (s.get SUP_GOOD_GOOD) slot = true → Runs .intStepDone s fun t =>
      t = { s with psq := if s.psq.step < 4 then { s.psq with step := s.psq.step + 1 } else { s.psq with st := .off, step := 0 } }) ∧
    (s.psq.st = .intUp → bit (s.get SUP_GOOD_GOOD) slot = false → Runs .intStepTimeout s fun t => kept t ∧
      t.psq = { s.psq with st := .intDown } ∧ (t.pevt pageSUP).testBit 4 = true ∧
      t.rd 0x350 = BitVec.ofNat 32 (slot + 16 + 64 + 128) ∧
      RegsKept s t [0x350, (SUP_RAILCNT_TOCNT slot).addr, 0x410, 0x418]) ∧
    (s.psq.st = .intDown → Runs .intDownDone s fun t => kept t ∧ t.psq = { s.psq with st := .intLatched, raised := [] } ∧
      t.rst.inReset = true ∧ t.get PSQ_STATE_ENXLVL = 0 ∧ t.clk.pllOn = false ∧ (∀ f, f < 2 → t.fst f = 0 ∧ t.gateOn f = false) ∧
      (∀ x, x < 4 → s.lst x ≠ 0 → (t.port x).out = []) ∧
      ∀ a, a ∉ [PSQ_STATE_ENXLVL.addr, 0xA34, 0xA74] → (a < 0x1100 ∨ 0x1500 ≤ a) → a ≠ 0x18 → t.rd a = s.rd a) ∧
    (s.psq.st = .up → mon = false ∨ good = true → Runs .extUpStepDone s fun t => kept t ∧
      (∀ k, s.psq.order[s.psq.step + 1]? = some k →
        t.psq = { s.psq with step := s.psq.step + 1, raised := k :: s.psq.raised } ∧
        (k < 8 → (t.get PSQ_STATE_ENXLVL).testBit k = true) ∧ RegsKept s t [PSQ_STATE_ENXLVL.addr]) ∧
      (s.psq.order.length ≤ s.psq.step + 1 → t.psq = { s.psq with st := .on } ∧ (t.pevt pagePSQ).testBit 0 = true ∧
        RegsKept s t [0x310, 0x318])) ∧
    (s.psq.st = .up → mon = true → good = false → Runs .extUpTimeout s fun t => kept t ∧ (t.pevt pagePSQ).testBit 2 = true ∧
      t.rd 0x350 = BitVec.ofNat 32 (rail + 16 + 128) ∧
      (∀ k ks, s.psq.raised = k :: ks → t.psq = { s.psq with st := .faildown, raised := ks, step := ks.length }) ∧
      (s.psq.raised = [] → t.psq = { s.psq with st := .latched } ∧ (t.pevt pagePSQ).testBit 3 = true)) ∧
    (∀ k ks, s.psq.raised = k :: ks → s.psq.st = .down ∨ s.psq.st = .faildown ∨ s.psq.st = .intDown →
      Runs .extDownStepDone s fun t => kept t ∧ t.psq = { s.psq with raised := ks, step := ks.length } ∧
        (k < 8 → (t.get PSQ_STATE_ENXLVL).testBit k = false) ∧ RegsKept s t [PSQ_STATE_ENXLVL.addr]) ∧
    (s.psq.raised = [] → s.psq.st = .down → s.psq.gaspDone = false → Runs .extDownStepDone s fun t =>
      t = { s with psq := { s.psq with st := .minoff } }) ∧
    (s.psq.raised = [] → s.psq.st = .faildown → Runs .extDownStepDone s fun t => kept t ∧ t.psq = { s.psq with st := .latched } ∧
      (t.pevt pagePSQ).testBit 3 = true ∧ RegsKept s t [0x310, 0x318]) ∧
    (s.psq.st = .minoff → s.psq.pendOn = false → Runs .minoffDone s fun t => kept t ∧ t.psq = { s.psq with st := .off } ∧
      (t.pevt pagePSQ).testBit 1 = true ∧ RegsKept s t [0x310, 0x318]) ∧
    (s.psq.st = .minoff → s.psq.pendOn = true → (∃ k, k < 8 ∧ 2 ≤ s.orderList.count k) → Runs .minoffDone s fun t => kept t ∧
      t.psq = { s.psq with st := .off, pendOn := false } ∧ (t.pevt pagePSQ).testBit 5 = true ∧ (t.pevt pagePSQ).testBit 1 = true ∧
      RegsKept s t [0x310, 0x318]) ∧
    (s.psq.st = .minoff → s.psq.pendOn = true → (∀ k, k < 8 → s.orderList.count k ≤ 1) → Runs .minoffDone s fun t => kept t ∧
      t.psq.order = s.orderList ∧ t.psq.pendOn = false ∧
      (∀ k ks, s.orderList = k :: ks → t.psq.st = .up ∧ t.psq.step = 0 ∧ t.psq.raised = [k]) ∧
      (s.orderList = [] → t.psq.st = .on))

/-- SUP_SAMPLE completes for the slot whose turn it is: the converter's code for the voltage, window, runs, flags, counts and actions of
that rail alone; the scan goes on to the next slot and is counted at its end, and HKSTAT shows the regulators at their limit.
(R51, R52, R53, R54, R55, R56, R69, R71) -/
def Obligations.SupervisorClassifiesItsSamples : Prop :=
  ∀ (s : State) (uv : Nat) (lim : BitVec 5),
    let k := s.psq.scan % 16
    let code := railCode k uv
    let cfg := s.railCfg k
    let hk : List Nat := [PSQ_HKSTAT_HK0_ILIM.addr, 0x310, 0x318, SUP_SAMPLE_SCANCNT.addr]
    let kept (t : State) : Prop := LanesKept s t [] ∧ StoresKept s t
    let others (t : State) : Prop := (∀ j, j < 16 → j ≠ k → t.rail j = s.rail j ∧
      (t.get SUP_GOOD_GOOD).testBit j = (s.get SUP_GOOD_GOOD).testBit j)
    (s.psq.st = .powerless → Runs (.supSample uv lim) s fun t => t = s) ∧ (s.psq.st ≠ .powerless →
    (Runs (.supSample uv lim) s fun t => StoresKept s t ∧ t.psq.scan = (k + 1) % 16 ∧ (t.rail k).code = code ∧
      code = min 4095 ((2 * uv * 4096 + railDiv k * 1250000) / (2 * (railDiv k * 1250000))) ∧
      t.get SUP_SAMPLE_SCANCNT = (if k = 15 then (s.get SUP_SAMPLE_SCANCNT + 1) % 65536 else s.get SUP_SAMPLE_SCANCNT) ∧
      t.get PSQ_HKSTAT_HK0_ILIM = lim.toNat % 2 ∧ t.get PSQ_HKSTAT_HK1_ILIM = lim.toNat / 2 % 2 ∧
      t.get PSQ_HKSTAT_LDO_ILIM = lim.toNat / 4 ∧
      (lim.getLsbD 0 = true → s.get PSQ_HKSTAT_HK0_ILIM = 0 → (t.pevt pagePSQ).testBit 6 = true)) ∧
    (bitsOf cfg 31 1 = 0 → Runs (.supSample uv lim) s fun t => kept t ∧ t.rail k = { s.rail k with code := code } ∧
      others t ∧ t.psq = { s.psq with scan := (k + 1) % 16 } ∧ RegsKept s t hk) ∧
    (bitsOf cfg 31 1 = 1 → bitsOf cfg 0 12 + s.get SUP_HYS_HYS ≤ code → code + s.get SUP_HYS_HYS ≤ bitsOf cfg 12 12 →
      bit (s.get SUP_GOOD_GOOD) k = false → Runs (.supSample uv lim) s fun t => kept t ∧ others t ∧
        (t.rail k).code = code ∧ (t.rail k).cls = .inWindow ∧
        ((t.get SUP_GOOD_GOOD).testBit k = true ↔
          max 1 (s.get (SUP_RAILTIM_STAB k)) ≤ (s.rail k).inRun + 1) ∧
        RegsKept s t (SUP_GOOD_GOOD.addr :: hk)) ∧
    (bitsOf cfg 31 1 = 1 → code < bitsOf cfg 0 12 → bit (s.get SUP_GOOD_GOOD) k = true →
      (s.rail k).lowRun + 1 < max 1 (bitsOf cfg 24 4) → Runs (.supSample uv lim) s fun t =>
        kept t ∧ others t ∧ (t.rail k).lowRun = (s.rail k).lowRun + 1 ∧ (t.get SUP_GOOD_GOOD).testBit k = true ∧
        RegsKept s t (SUP_GOOD_GOOD.addr :: hk)) ∧
    (bitsOf cfg 31 1 = 1 → code < bitsOf cfg 0 12 → bit (s.get SUP_GOOD_GOOD) k = true →
      max 1 (bitsOf cfg 24 4) ≤ (s.rail k).lowRun + 1 → bitsOf cfg 28 2 = 0 → 7 ≤ k → Runs (.supSample uv lim) s fun t =>
        kept t ∧ others t ∧ (t.get SUP_GOOD_GOOD).testBit k = false ∧ (t.get SUP_FLAGS_UVF).testBit k = true ∧
        (t.pevt pageSUP).testBit 0 = true ∧ t.psq = { s.psq with scan := (k + 1) % 16 }))

/-- POWER_ON, VIN_UVLO, POWER_FAIL, POWER_FAIL_RELEASE and LAST_GASP_COMPLETE complete: outputs off, stores kept, causes and states
as the chapter says; the record is written at most twice. (R62, R66, R67, R81, R89, R168) -/
def Obligations.PowerLossReleasesTheOutputs : Prop :=
  ∀ (s : State) (b v : Bool) (r1 r2 : StoreReply),
    (s.psq.st = .powerless → Runs (.powerOn b) s fun t => t.psq = { Psq.reset with st := .intUp } ∧ t.rst.inReset = true ∧
      t.get RST_CAUSE_CAUSE = 1 ∧ t.get RST_LAST_CODE = 0 ∧ t.store = s.store ∧ t.otp = s.otp ∧ t.allOff ∧
      (b = true → t.pl = s.pl ∧ ∀ a, plinthHeld a = true → t.rd a = s.rd a)) ∧
    (s.psq.st ≠ .powerless → Runs (.powerOn b) s fun t => t = s) ∧
    Runs .vinUvlo s (fun t => t.psq.st = .powerless ∧ t.running = false ∧ t.store = s.store ∧ (s.otpc.op = 0 → t.otp = s.otp) ∧
      t.pl = s.pl ∧ (∀ a, plinthHeld a = true → t.rd a = s.rd a) ∧ ∀ n, n < 64 → t.lane n = Lane.reset) ∧
    (s.psq.st ≠ .powerless → s.psq.st ≠ .lastgasp → Runs .powerFail s fun t => t.psq.st = .lastgasp ∧ t.psq.gaspDone = false ∧
      t.running = false ∧ t.flag PSQ_HKSTAT_PFLIVE = true ∧ t.store = s.store ∧ t.evr.job = .none ∧
      (∀ k, k ∈ t.psq.raised ↔ k ∈ s.psq.raised ∧ (s.rtimOf k).testBit 24 = false) ∧ (s.otpc.op = 0 → t.otp = s.otp) ∧
      ∀ l ∈ s.leads, (s.lane l).chan.st ≠ .safe → ∀ n ∈ s.members l, t.laneDark n) ∧
    (s.psq.st = .lastgasp → Runs .powerFail s fun t => t.psq = { s.psq with vinOk := false } ∧ t.flag PSQ_HKSTAT_PFLIVE = true ∧
      RegsKept s t [PSQ_HKSTAT_PFLIVE.addr] ∧ LanesKept s t [] ∧ StoresKept s t) ∧
    (s.psq.st = .lastgasp → s.psq.gaspDone = false → Runs .powerFailRelease s fun t =>
      t.psq = { s.psq with vinOk := true } ∧ t.flag PSQ_HKSTAT_PFLIVE = false ∧ RegsKept s t [PSQ_HKSTAT_PFLIVE.addr] ∧
      LanesKept s t [] ∧ StoresKept s t) ∧
    (s.psq.st ≠ .lastgasp ∨ s.psq.gaspDone = true → Runs (.lastGaspComplete v ⟨r1, r2⟩) s fun t => t = s) ∧
    (s.psq.st = .lastgasp → s.psq.gaspDone = false → s.rst.afterGasp = false → ∀ x, s.evr.gasp = some x →
      Runs (.lastGaspComplete false ⟨r1, r2⟩) s fun t => t.psq = { s.psq with gaspDone := true, vinOk := false } ∧ t.evr.gasp = none ∧
        (r1 = .matched ∨ r2 = .matched →
          t.storeWords (0x2100 + 64 * (s.get REC_PCYC_PCYC % 4)) 16 = recordWords x (s.get REC_WSEQ_SEQ)) ∧
        (r1 = .timedOut → r2 = .timedOut → t.store = s.store) ∧ LanesKept s t [] ∧ t.otp = s.otp) ∧
    (s.psq.st = .lastgasp → s.psq.gaspDone = false → s.rst.afterGasp = true → Runs (.lastGaspComplete v ⟨r1, r2⟩) s fun t =>
      t.rst.inReset = true ∧ t.psq.st = .off ∧ t.get RST_LAST_CODE = 1) ∧
    (s.psq.st = .lastgasp → s.psq.gaspDone = false → s.rst.afterGasp = false → v = true → s.psq.raised = [] →
      Runs (.lastGaspComplete v ⟨r1, r2⟩) s fun t => t.rst.inReset = true ∧ t.psq.st = .off ∧ t.get RST_LAST_CODE = 3)

/-- CLK_MONITOR_WINDOW, HOLD_EXP, CLK_RELOCK_DONE and WAKE complete with the clock status, mode, causes and stops of the chapter.
(R73, R74, R75, R76, R77, R78, R79, R91, R94) -/
def Obligations.ClockMonitorHoldoverAndRelock : Prop :=
  (∀ (s : State) (r : BitVec 8) (c : BitVec 12), s.running = true →
    let ref : Prop := 59 ≤ r.toNat ∧ r.toNat ≤ 69
    let sys : Prop := 482 ≤ c.toNat ∧ c.toNat ≤ 542
    (ref → sys → s.flag CLK_STAT_HOLDOVER = false → Runs (.clkMonitorWindow r c) s fun t =>
      t.clk.refBad = 0 ∧ t.clk.sysBad = 0 ∧ t.get CLK_MONCNT_REFCNT = r.toNat ∧ t.get CLK_MONCNT_SYSCNT = c.toNat ∧
      (s.clk.refGood = 1 → t.flag CLK_STAT_REF_OK = true) ∧ RegsKept s t [0x124, 0x12C] ∧ LanesKept s t [] ∧ StoresKept s t) ∧
    (¬ref → sys → s.clk.refBad = 0 → s.flag CLK_STAT_HOLDOVER = false → Runs (.clkMonitorWindow r c) s fun t => t.clk.refBad = 1 ∧
      t.flag CLK_STAT_REF_OK = false ∧ t.flag CLK_STAT_HOLDOVER = false ∧ RegsKept s t [0x124, 0x12C] ∧ LanesKept s t [] ∧ StoresKept s t) ∧
    (¬ref → sys → s.clk.refBad = 1 → Runs (.clkMonitorWindow r c) s fun t => t.flag CLK_STAT_HOLDOVER = true ∧
      t.flag CLK_STAT_REF_OK = false ∧ (t.pevt pageCLK).testBit 0 = true ∧ t.flag SYS_FLTSRC_CLOCK = true ∧
      t.ptSt = (if s.ptSt = 0 then 0 else 4) ∧ LanesKept s t [] ∧ StoresKept s t) ∧
    (¬sys → s.clk.sysBad = 1 → Runs (.clkMonitorWindow r c) s fun t => t.rst.inReset = true ∧ t.get RST_LAST_CODE = 4 ∧
      (t.get RST_CAUSE_CAUSE).testBit 4 = true ∧ t.allOff ∧ t.store = s.store)) ∧
  (∀ (s : State) (k : Fin 11),
    (s.running = true → s.flag CLK_STAT_HOLDOVER = true → Runs .holdExp s fun t => (t.pevt pageCLK).testBit 2 = true ∧
      t.flag SYS_FLTSRC_CLOCK = true ∧ max 1 (s.get CLK_CFG_HOLDMAX) ≤ t.get CLK_HOLDTIME_MS ∧ t.flag CLK_STAT_HOLDOVER = true) ∧
    (s.running = false ∨ s.flag CLK_STAT_HOLDOVER = false → Runs .holdExp s fun t => t = s) ∧
    (s.running = true → s.flag CLK_STAT_RELOCKING = true → Runs .clkRelockDone s fun t => t.flag CLK_STAT_RELOCKING = false ∧
      t.flag CLK_STAT_HOLDOVER = false ∧ t.flag CLK_STAT_PLL_LOCK = true ∧ t.flag CLK_STAT_DL_LOCK = true ∧
      (t.pevt pageCLK).testBit 4 = true ∧ t.ptSt = 0 ∧ t.get CLK_HOLDTIME_MS = 0 ∧ LanesKept s t [] ∧ StoresKept s t ∧
      RegsKept s t [0x110, 0x118, 0x124, 0x130, 0x152C, 0x1510, 0x1518]) ∧
    (s.alive = true → s.psq.st ≠ .lastgasp → s.mode = .deepSleep → (s.get SYS_WAKEEN_EN).testBit k.val = true →
      s.wakeActive k.val = true →
      (Runs (.wake k true) s fun t => t.mode = .standby ∧ t.clk.pllOn = true ∧ (t.get SYS_WAKESRC_SRC).testBit k.val = true ∧
        t.flag CLK_STAT_PLL_LOCK = true ∧ (t.pevt pageSYS).testBit 6 = true ∧ t.ptSt = 0 ∧ LanesKept s t [] ∧ StoresKept s t) ∧
      (Runs (.wake k false) s fun t => t.mode = .deepSleep ∧ t.clk = s.clk ∧ (t.pevt pageSYS).testBit 1 = true ∧
        (t.pevt pageCLK).testBit 0 = true ∧ LanesKept s t [] ∧ StoresKept s t)) ∧
    (s.mode ≠ .deepSleep ∨ (s.get SYS_WAKEEN_EN).testBit k.val = false ∨ s.wakeActive k.val = false → ∀ b, Runs (.wake k b) s fun t => t = s))

/-- RESET_N_ASSERT, DEVICE_RESET_RELEASE and PLL_LOCK_RETRY complete with the cause, the preserved state and the state after
release; that RESET_N records no cause in INT_UP is the model's choice (assumption 64). (R40, R41, R79, R80, R81, R83, R84, R85,
R89) -/
def Obligations.ResetPinAndReleaseAct : Prop :=
  ∀ (s : State) (x : ReleaseIn),
    let special : Prop := s.psq.st = .powerless ∨ s.psq.st = .intUp ∨ s.psq.st = .intDown ∨ s.psq.st = .intLatched ∨ s.psq.st = .lastgasp
    let n := 9472 + x.after
    let released (t : State) : Prop := t.running = true ∧ t.rst.inReset = false ∧ t.rst.pinLow = false ∧
      t.time = ⟨5 * n, n % 2000, 5 * n⟩ ∧ (t.clk.due = true ↔ n % 2000 = 0) ∧ t.clk.open_ = false ∧
      t.get SYS_STRAP_BOOTSEL = x.bootsel.toNat ∧ t.flag HIF_CFG_CRCEN = x.hcrc ∧ t.flag CLK_STAT_PLL_LOCK = true ∧
      (t.pevt pageRST).testBit 1 = true ∧ t.shadow = shadowOf s.otp ∧ t.otp = s.otp ∧ t.store = s.store ∧
      (x.bootsel = 3 → (t.pevt pageSYS).testBit 5 = true)
    (¬special → Runs .resetNAssert s fun t => t.rst = { Rst.reset with pinLow := true } ∧ t.get RST_LAST_CODE = 1 ∧
      (t.get RST_CAUSE_CAUSE).testBit 1 = true ∧ t.allOff ∧ t.running = false ∧ t.store = s.store ∧ t.lf = s.lf) ∧
    (s.psq.st = .intDown ∨ s.psq.st = .intLatched → Runs .resetNAssert s fun t => t.rst = { Rst.reset with pinLow := true } ∧
      t.psq.st = s.psq.st ∧ t.psq.raised = [] ∧ t.get PSQ_STATE_ENXLVL = 0 ∧ t.get RST_LAST_CODE = 1 ∧ t.allOff ∧ t.store = s.store ∧
      (t.pevt pageSUP).testBit 4 = (s.pevt pageSUP).testBit 4 ∧ ∀ f, f < 2 → t.gateOn f = false) ∧
    (s.psq.st = .lastgasp → s.psq.gaspDone = false → Runs .resetNAssert s fun t =>
      t = { s with rst := { s.rst with pinLow := true, afterGasp := true } }) ∧
    (s.psq.st = .lastgasp → s.psq.gaspDone = true → Runs .resetNAssert s fun t => t.rst = { Rst.reset with pinLow := true } ∧
      t.psq.st = .off ∧ t.get RST_LAST_CODE = 1 ∧ t.allOff ∧ t.store = s.store) ∧
    (s.psq.st = .powerless ∨ s.psq.st = .intUp → Runs .resetNAssert s fun t => t = { s with rst := { s.rst with pinLow := true } }) ∧
    (¬special → s.rst.inReset = true → x.locks = true → Runs (.deviceResetRelease x) s released) ∧
    (¬special → s.rst.inReset = true → s.clk.waitPll = true → x.locks = true → Runs (.pllLockRetry x) s released) ∧
    (¬special → s.rst.inReset = true → x.locks = false → Runs (.deviceResetRelease x) s fun t => t.rst.inReset = true ∧
      t.clk = { s.clk with waitPll := true } ∧ t.shadow = shadowOf s.otp ∧ t.otp = s.otp) ∧
    (s.psq.st = .intLatched → s.rst.pinLow = true → s.psq.vinOk = true → Runs (.deviceResetRelease x) s fun t =>
      t = { s with rst := { s.rst with pinLow := false }, psq := { s.psq with st := .intUp, step := 0 } })

/-- FRAME_BOUNDARY brings time to cycle 0 of the next frame and GRANT_APPLY past cycle 1,000, once a frame; SYNC_EDGE and SYNC_LOST
move the reference by its state: a counted edge while LOCKED makes P the last interval and places the next reference edge. (R19,
R20, R149, R150, R151, R152, R154) -/
def Obligations.FramesAndReferenceAdvance : Prop :=
  (∀ (s : State) (x : FrameIn) (g : GrantIn), s.running = true → s.flag CLK_STAT_RELOCKING = false →
    (s.time.cyc < 2000 → s.ptm.step = none → Runs (.frameBoundary x) s fun t => t.clk.due = false ∧
      t.time = if s.clk.due = true then s.time
        else ⟨s.time.ptime + 5 * (2000 - s.time.cyc), 0, s.time.loc + 5 * (2000 - s.time.cyc)⟩) ∧
    (s.clk.open_ = true → s.time.cyc ≤ 1000 → Runs (.grantApply g) s fun t =>
      t.time = ⟨s.time.ptime + 5 * (1001 - s.time.cyc), 1001, s.time.loc + 5 * (1001 - s.time.cyc)⟩ ∧ t.clk.open_ = false ∧
      ∀ l ∈ s.leads, (s.lane l).chan.st = .safe → (t.lane l).chan.st = .safe) ∧
    (s.clk.open_ = false ∨ 1000 < s.time.cyc → Runs (.grantApply g) s fun t => t = s)) ∧
  (∀ (s : State) (w v : Bool) (k : Nat), s.running = true →
    let at_ := s.tapsNow + k
    let kept (t : State) : Prop := LanesKept s t [] ∧ StoresKept s t
    (s.mref.stamp = none → Runs (.syncEdge w v k) s fun t => kept t ∧ t.mref = { s.mref with qual := 0, stamp := some at_ } ∧
      (t.pevt pagePTM).testBit 15 = true ∧ RegsKept s t [0x1510, 0x1518]) ∧
    (∀ x0, s.mref.stamp = some x0 →
      let iv := (at_ - x0).toNat
      (64000 < iv → Runs (.syncEdge w v k) s fun t => kept t ∧ t.mref = { s.mref with qual := 0, stamp := some at_ } ∧
        (t.pevt pagePTM).testBit 15 = true ∧ RegsKept s t [0x1510, 0x1518]) ∧
      (iv < 6400 → Runs (.syncEdge w v k) s fun t => kept t ∧ t.mref = { s.mref with qual := 0 } ∧
        (t.pevt pagePTM).testBit 15 = true ∧ RegsKept s t [0x1510, 0x1518]) ∧
      (6400 ≤ iv → iv ≤ 64000 → w = false ∨ v = false → Runs (.syncEdge w v k) s fun t => kept t ∧ t.mref = s.mref ∧
        (t.pevt pagePTM).testBit 15 = true ∧ RegsKept s t [0x1510, 0x1518]) ∧
      (6400 ≤ iv → iv ≤ 64000 → w = true → v = true → s.get PTM_MREFSTAT_ST = mrLocked → Runs (.syncEdge w v k) s fun t => kept t ∧
        t.mref.p16 = iv * 65536 ∧ t.mref.lastInt = iv ∧ t.mref.stamp = some at_ ∧ t.mref.counted = at_ ∧
        t.mref.edge16 + t.mref.gap16 = (at_ + iv) * 65536 + s.get PTM_MREFDLY_SYNCDLY * 65536 % (iv * 65536) ∧
        t.get PTM_MREFSTAT_PERIOD = iv ∧ t.flag PTM_MREFSTAT_SYNCPRES = true ∧
        t.get PTM_SYNCPER_PER = iv ∧ t.get PTM_SYNCPER_EDGES = (s.get PTM_SYNCPER_EDGES + 1) % 65536 ∧ t.get PTM_MREFSTAT_ST = mrLocked ∧
        (s.mref.lastInt ≠ 0 → t.getI PTM_SYNCERR_ERR = satI 16 ((iv : Int) - s.mref.lastInt)) ∧
        RegsKept s t [0x15D0, 0x15D4, 0x15D8])) ∧
    (s.get PTM_MREFSTAT_ST = mrLocked ∨ s.get PTM_MREFSTAT_ST = mrPull → Runs .syncLost s fun t => kept t ∧
      t.flag PTM_MREFSTAT_SYNCPRES = false ∧ t.get PTM_MREFSTAT_ST = (if s.condA then mrAcq else mrGlide) ∧ t.mref.p16 = s.mref.p16 ∧
      (t.pevt pagePTM).testBit 13 = true ∧ RegsKept s t [0x15D0, 0x1510, 0x1518]))

/-- CONTACT_LOST, SAFE_N_ASSERT, SAFE_N_RELEASE, BANK_UV, BANK_UV_RECOVER, ISOSET_ELAPSED, HOLDT_ELAPSED, VBS_SAMPLE and
RANGE_UP_SWITCH complete; contact is lost after 40 cycles in a row of disagreement and step; a forced channel is SAFE and every lane
of it drives no output; a channel that becomes ACTIVE starts its lanes. (R93, R128, R157, R166, R168, R170,
R146, R171, R195, R273, R274, R138) -/
def Obligations.ChannelsStopAndTimersAct : Prop :=
  (∀ (s : State) (n : LaneNo) (b : Fin 8),
    let safed (t : State) (l : Nat) : Prop := (t.lane l).chan.st = .safe ∧
      ((s.lane l).chan.st ≠ .safe → (∀ k ∈ s.members l, t.laneDark k) ∧ t.flag (LANE_CHCTL_RUN l) = false)
    (∀ (csn vsp : Int) (cycles : Nat), s.running = true → s.contactArmed n.val = true →
      (s.contactBoth n.val csn vsp = true → 40 ≤ (s.lane n.val).health.clCyc + cycles → Runs (.contactLost ⟨n, csn, vsp, cycles⟩) s fun t =>
        safed t (s.leadOf n.val) ∧ (t.pevt (pageLANE n.val)).testBit 9 = true ∧ t.flag SYS_FLTSRC_LANE_TRIP = true ∧
        t.get (LANE_SOCSTAT_SOC (s.leadOf n.val)) = 0) ∧
      (s.contactBoth n.val csn vsp = true → (s.lane n.val).health.clCyc + cycles < 40 → Runs (.contactLost ⟨n, csn, vsp, cycles⟩) s fun t =>
        (t.lane n.val).health = { (s.lane n.val).health with clCyc := (s.lane n.val).health.clCyc + cycles } ∧
        (t.lane n.val).chan = (s.lane n.val).chan ∧ LanesKept s t [n.val] ∧ RegsKept s t [] ∧ StoresKept s t) ∧
      (s.contactBoth n.val csn vsp = false → Runs (.contactLost ⟨n, csn, vsp, cycles⟩) s fun t =>
        (t.lane n.val).health = { (s.lane n.val).health with clCyc := 0 } ∧ (t.lane n.val).chan = (s.lane n.val).chan ∧
        LanesKept s t [n.val] ∧ RegsKept s t [] ∧ StoresKept s t)) ∧
    (∀ (csn vsp : Int) (cycles : Nat), s.running = false ∨ s.contactArmed n.val = false →
      Runs (.contactLost ⟨n, csn, vsp, cycles⟩) s fun t => t = s) ∧
    (s.alive = true → s.psq.st ≠ .lastgasp → Runs .safeNAssert s fun t => t.pins.safeIn = true ∧ (∀ l ∈ s.leads, safed t l) ∧
      (t.pevt pageSYS).testBit 2 = true ∧ t.flag SYS_FLTSRC_SAFEIN = true) ∧
    Runs .safeNRelease s (fun t => t = { s with pins := { s.pins with safeIn := false } }) ∧
    (s.alive = true → Runs (.bankUv b) s fun t => t.pins.bankUv.testBit b.val = true ∧
      (∀ l ∈ s.leads, bankOf l = b.val → safed t l) ∧
      (∀ l ∈ s.enabledLanes, bankOf l = b.val → (t.pevt (pageLANE l)).testBit 11 = true)) ∧
    Runs (.bankUvRecover b) s (fun t => t.pins.bankUv.testBit b.val = false ∧ t = { s with pins := { s.pins with bankUv := t.pins.bankUv } })) ∧
  (∀ (s : State) (n : LaneNo) (b : Fin 8) (code : BitVec 10) (low : Byte), s.running = true →
    let l := n.val
    ((s.lane l).chan.st = .closing → Runs (.isosetElapsed ⟨n, low⟩) s fun t => (t.lane l).chan.st = .active ∧
      t.get (LANE_CHSTAT_TSEQ l) = (s.get (LANE_CHSTAT_TSEQ l) + 1) % 256 ∧ (t.lane l).chan.tgt = s.measured l ∧
      (∀ k ∈ s.healthy l, k < 64 → (t.lane k).st = .idle ∧ (t.lane k).modu.first = true ∧ (t.lane k).modu.gh = false ∧
        (t.lane k).modu.pre = low.getLsbD (k - l) ∧ (t.lane k).modu.gl = low.getLsbD (k - l)) ∧
      LanesKept s t (l :: s.members l) ∧
      StoresKept s t ∧ RegsKept s t [0x4098 + 256 * l, 0x4010 + 256 * l, 0x4018 + 256 * l]) ∧
    ((s.lane l).chan.st ≠ .closing → Runs (.isosetElapsed ⟨n, low⟩) s fun t => t = s) ∧
    ((s.lane l).chan.st = .hold → Runs (.holdtElapsed n) s fun t => (t.lane l).chan.st = .ramp ∧
      (t.lane l).chan.dem = (s.lane l).chan.grant ∧ LanesKept s t [l] ∧ StoresKept s t ∧
      ((s.lane l).eng.st.running = true → (t.lane l).eng.st = .faulted ∧ t.get (LANE_RESULT_REASON l) = 0x0B ∧
        (t.pevt pageRCP).testBit 1 = true)) ∧
    ((s.lane l).chan.st ≠ .hold → Runs (.holdtElapsed n) s fun t => t = s) ∧
    (s.mode ≠ .deepSleep → s.enabled (8 * b.val) = true → Runs (.vbsSample b code) s fun t =>
      t = { s with pins := { s.pins with
              vbs := s.pins.vbs.setIfInBounds b.val (((s.time.loc, code.toNat) :: s.pins.vbs.toList.getD b.val []).take 32) } }) ∧
    (s.enabled l = true → s.get (LANE_MCTL_RANGE l) = 0 ∨ s.get (LANE_MCTL_RANGE l) = 3 → s.get (LANE_MSTAT_RNG l) = 1 →
      Runs (.rangeUpSwitch n) s fun t => t.get (LANE_MSTAT_RNG l) = 0 ∧ (∀ k, (t.lane k).modu = (s.lane k).modu ∧
        (t.lane k).chan = (s.lane k).chan) ∧ StoresKept s t) ∧
    (s.get (LANE_MCTL_RANGE l) = 1 ∨ s.get (LANE_MCTL_RANGE l) = 2 → Runs (.rangeUpSwitch n) s fun t => t = s))

/-- SWITCH_TRIGGER, ON_TIME_END, OC_LIMIT, MISSING_TRIGGER and BST_PRECHARGE_END complete with the gates, on-time, threshold, instants,
counts and events; a second withheld cycle in a row hands the lane to phase health; no other lane changes. (R133, R134, R135, R137,
R141, R144, R145, R146, R147, R148, R156, R158, R181) -/
def Obligations.ModulatorFollowsItsTriggers : Prop :=
  ∀ (s : State) (n : LaneNo) (trip : Nat) (b : Bool) (k : Interlock),
    let l := n.val
    let m := (s.lane l).modu
    let page := pageLANE l * 256
    let only (t : State) : Prop := LanesKept s t [l] ∧ StoresKept s t ∧ (t.lane l).chan = (s.lane l).chan
    let locked (t : State) : Prop := 256 < lockDelay k ∨ k = .stuck → (t.pevt (pageLANE l)).testBit 15 = true
    (s.triggerable l = true → b = false ∨ m.grDis = true →
      let e := s.edgeFor l (s.tapsNow + trip)
      let t0 := s.triggerAt l (s.tapsNow + trip) (s.phaseEdge l e)
      let code := s.vbsBy (bankOf l) (t0 - 256)
      let ton := (s.onTime l m.grDis code).taps
      let t1 := t0 + (if m.grDis then s.dtHl l else s.dtLh l : Nat) + lockDelay k
      Runs (.switchTrigger n trip b k) s fun t => only t ∧ locked t ∧
        (t.lane l).st = .switching ∧ (t.lane l).modu.onTime = true ∧ (t.lane l).modu.cycDis = m.grDis ∧
        (t.lane l).modu.gh = (!m.grDis && lockRises k) ∧ (t.lane l).modu.gl = (m.grDis && lockRises k) ∧
        (t.lane l).modu.withheld = (m.grDis && m.withheld) ∧ (t.lane l).modu.edge = e + 1 ∧ (t.lane l).modu.t1 = t1 ∧
        (t.lane l).modu.t4 = t1 + ton + (if m.grDis then s.dtLh l else s.dtHl l : Nat) + max (s.get (LANE_LIMITS_TOFFMIN l)) 1024 ∧
        t.get (LANE_TON_TON l) = ton % 65536 ∧ t.flag (LANE_TON_TIMED l) = m.grDis ∧ t.flag (LANE_TON_SW l) = true ∧
        t.getI (LANE_THR_THR l) = s.thresholdCode l m.grDis code ton ∧
        RegsKept s t [page + 0x10, page + 0x18, page + 0x40, page + 0x4C]) ∧
    (s.triggerable l = true → b = true → m.grDis = false →
      (m.withheld = false → Runs (.switchTrigger n trip b k) s fun t =>
        only t ∧ (t.lane l).modu.gh = false ∧ (t.lane l).modu.gl = true ∧ (t.lane l).modu.withheld = true ∧
        (t.pevt (pageLANE l)).testBit 12 = true ∧ RegsKept s t [page + 0x10, page + 0x18, page + 0x4C]) ∧
      (m.withheld = true → Runs (.switchTrigger n trip b k) s fun t => (t.lane l).modu.gh = false ∧ (t.lane l).modu.gl = false ∧
        (t.pevt (pageLANE l)).testBit 12 = true ∧
        (s.phaseChecked l = true → t.get (LANE_LSTAT_PHCAUSE l) = 2 ∧ (t.pevt (pageLANE l)).testBit 6 = true ∧
          ((t.lane (s.leadOf l)).chan.st = .safe ∨ t.flag (LANE_LSTAT_SHED l) = true)))) ∧
    (s.triggerable l = false → Runs (.switchTrigger n trip b k) s fun t => t = s) ∧
    (m.onTime = true → (s.lane l).st = .switching → s.bankPaused l = false → m.cycDis = false ∨ b = false →
      Runs (.onTimeEnd n b k) s fun t => only t ∧ locked t ∧ (t.lane l).st = .switching ∧
        (t.lane l).modu = { m with onTime := false, gh := m.cycDis && lockRises k, gl := !m.cycDis && lockRises k,
                                   t4 := m.t4 + lockDelay k, withheld := !m.cycDis && m.withheld } ∧
        RegsKept s t [page + 0x10, page + 0x18, page + 0x4C]) ∧
    (m.onTime = true → (s.lane l).st = .switching → s.bankPaused l = false → m.cycDis = true → b = true → m.withheld = false →
      Runs (.onTimeEnd n b k) s fun t => only t ∧
        (t.lane l).modu = { m with onTime := false, gh := false, gl := true, withheld := true } ∧
        (t.pevt (pageLANE l)).testBit 12 = true ∧ RegsKept s t [page + 0x10, page + 0x18, page + 0x4C]) ∧
    (m.onTime = true → (s.lane l).st ≠ .switching ∨ s.bankPaused l = true → Runs (.onTimeEnd n b k) s fun t => only t ∧
      (t.lane l).modu = { m with onTime := false, gh := false, gl := false, pre := false } ∧ RegsKept s t []) ∧
    (m.onTime = false → Runs (.onTimeEnd n b k) s fun t => t = s) ∧
    (s.running = true → m.onTime = true → (s.lane l).st = .switching → s.bankPaused l = false → m.cycDis = false ∨ b = false →
      Runs (.ocLimit ⟨n, trip, b, k⟩) s fun t => only t ∧ locked t ∧
        (t.lane l).modu = { m with onTime := false, gh := m.cycDis && lockRises k, gl := !m.cycDis && lockRises k,
                                   ocNow := min (m.ocNow + 1) 255, withheld := !m.cycDis && m.withheld,
                                   t4 := s.tapsNow + trip + (if m.cycDis then s.dtLh l else s.dtHl l : Nat) +
                                     max (s.get (LANE_LIMITS_TOFFMIN l)) 1024 + lockDelay k } ∧
        (t.pevt (pageLANE l)).testBit 3 = true ∧
        t.get (LANE_LCNT_OCCNT l) = (if s.frz (pageLANE l) then s.get (LANE_LCNT_OCCNT l) else min (s.get (LANE_LCNT_OCCNT l) + 1) 65535) ∧
        RegsKept s t [page + 0x10, page + 0x18, page + 0x4C, page + 0x68]) ∧
    (s.running = true → (s.lane l).st = .switching → s.bankPaused l = false →
      (s.overShare l = true → Runs (.missingTrigger n) s fun t => only t ∧ (t.lane l).st = .brake ∧
        (t.lane l).modu.gh = false ∧ (t.lane l).modu.gl = false ∧ t.flag (LANE_TON_SW l) = false ∧
        RegsKept s t [0x4040 + 256 * l, 0x4068 + 256 * l]) ∧
      (s.overShare l = false → s.phaseChecked l = true → Runs (.missingTrigger n) s fun t => t.get (LANE_LSTAT_PHCAUSE l) = 3 ∧
        (t.pevt (pageLANE l)).testBit 7 = true ∧ (t.lane l).modu.gh = false ∧ (t.lane l).modu.gl = false ∧
        ((t.lane (s.leadOf l)).chan.st = .safe ∨ t.flag (LANE_LSTAT_SHED l) = true))) ∧
    (m.pre = true → Runs (.bstPrechargeEnd n) s fun t => only t ∧ (t.lane l).modu = { m with pre := false, gl := false } ∧ RegsKept s t [])

/-- STEP_REST, STEP_CC, STEP_CV, STEP_CCCV, STEP_CP, STEP_CR, STEP_CHARGE, STEP_PULSE, STEP_EIS, STEP_OCV, STEP_BARRIER and
STEP_HOLD complete: the engine runs the step, mode, setpoint, slew and limits are the record’s, and the limits that the record does
not give take their base values. (R225, R226, R227, R230,
R231, R232, R236, R237, R238, R246, R255) -/
def Obligations.RegulatingStepsTakeTheirTargets : Prop :=
  ∀ (s : State) (n : LaneNo) (y : BitVec 13),
    let l := n.val
    let r := s.record y.toNat
    let a := recW r 1
    let b := recW r 2
    let base := (s.eng l).base
    let targets (t : State) (mode setpt slew : Nat) : Prop :=
      t.get (LANE_MODE_MODE l) = mode ∧ t.get (LANE_SETPT_SETPT l) = setpt ∧ t.get (LANE_SLEW_SLEW l) = slew
    let based (t : State) : Prop := t.get (LANE_VCLMP_VCLMPH l) = base.clmpH % 65536 ∧ t.get (LANE_VCLMP_VCLMPL l) = base.clmpL % 65536 ∧
      t.get (LANE_ILIM_ILIMC l) = base.limC % 65536 ∧ t.get (LANE_ILIM_ILIMD l) = base.limD % 65536
    let entered (t : State) (st : ESt) : Prop := (t.eng l).st = st ∧ (t.eng l).recd = r ∧ (t.eng l).e = 0 ∧ (t.eng l).entry = s.localFrame ∧
      (t.eng l).qIn = (s.lane l).meas.qAcc ∧ t.get (LANE_RSTAT_STEP l) = y.toNat ∧ t.get (LANE_RSTAT_TYPE l) = recTyp r ∧
      LanesKept s t [l] ∧ StoresKept s t ∧
      (∀ x, x / 256 ≠ pageLANE l → x / 256 ≠ pageRCP → x / 256 ≠ pageEIS → t.rd x = s.rd x)
    s.running = true → s.enabled l = true → s.isLead l = true → (s.eng l).st = .run ∨ (s.eng l).st = .barrier →
    (s.eng l).hostCm = [] → isTable r = false → s.badRecord l y.toNat r = 0 →
    (recTyp r = 1 → Runs (.stepRest n y) s fun t => entered t .run ∧ targets t 0 0 0 ∧ based t) ∧
    (recTyp r = 2 → Runs (.stepCc n y) s fun t => entered t .run ∧ targets t 0 a (recW r 4) ∧ based t) ∧
    (recTyp r = 3 → Runs (.stepCv n y) s fun t => entered t .run ∧ targets t 1 a (recW r 4) ∧
      t.get (LANE_ILIM_ILIMC l) = (if bitsOf b 0 16 = 0 then base.limC % 65536 else bitsOf b 0 16) ∧
      t.get (LANE_ILIM_ILIMD l) = (if bitsOf b 16 16 = 0 then base.limD % 65536 else bitsOf b 16 16)) ∧
    (recTyp r = 4 → Runs (.stepCccv n y) s fun t => entered t .run ∧ targets t 0 a (recW r 4) ∧
      t.get (LANE_VCLMP_VCLMPH l) = (if 0 < signed 32 a then bitsOf b 0 16 else base.clmpH % 65536) ∧
      t.get (LANE_VCLMP_VCLMPL l) = (if 0 < signed 32 a then base.clmpL % 65536 else bitsOf b 0 16)) ∧
    (recTyp r = 5 → Runs (.stepCp n y) s fun t => entered t .run ∧ targets t 2 a (recW r 4)) ∧
    (recTyp r = 6 → Runs (.stepCr n y) s fun t => entered t .run ∧ targets t 3 a (recW r 4) ∧
      t.get (LANE_VCLMP_VCLMPL l) = (if bitsOf b 0 16 = 0 then base.clmpL % 65536 else bitsOf b 0 16)) ∧
    (recTyp r = 7 → chgNimh r = false ∨ s.shadow.nimh = true → Runs (.stepCharge n y) s fun t => entered t .run ∧
      let p := s.record (chgProf r)
      let g := chargeTargets r p (t.chg l).phase (t.chg l).zone
      (t.chg l).prof = p ∧ t.flag (LANE_CHGSTAT_ACT l) = true ∧
      (t.chg l).phase = (if chgNotrk r ∨ (profVpre p : Int) * 2000 ≤ s.vCell l then Phase.cc
        else if profVtrk p = 0 ∨ (profVtrk p : Int) * 2000 ≤ s.vCell l then .pre else .trickle) ∧
      targets t 0 (unsigned 32 g.1) (g.2.1 % 2 ^ 32) ∧ t.get (LANE_VCLMP_VCLMPH l) = g.2.2 % 65536 ∧ t.get (LANE_ILIM_ILIMD l) = 0) ∧
    (recTyp r = 8 → Runs (.stepPulse n y) s fun t => entered t .run ∧ targets t 0 a 0 ∧ based t ∧ (t.eng l).lvlB = false ∧ (t.eng l).lvlCnt = 0) ∧
    (recTyp r = 9 → s.shadow.eis = true → Runs (.stepEis n y) s fun t => entered t .run ∧
      let c := sweepCfg l r (s.toneRecord (bitsOf b 16 13))
      (t.lane l).swp.cfg = c ∧ (t.lane l).swp.settle = c.nset ∧
      targets t (if c.base = 2 then 1 else 0) (if c.base = 1 ∨ c.base = 2 then c.basesp % 2 ^ 32 else 0) 0) ∧
    (recTyp r = 10 → Runs (.stepOcv n y) s fun t => entered t .run ∧ targets t 0 0 0 ∧ based t) ∧
    (recTyp r = 13 → Runs (.stepBarrier n y) s fun t => entered t .barrier ∧ (t.pevt pageRCP).testBit 5 = true ∧
      (b.testBit 0 = true → targets t 0 0 0) ∧
      (b.testBit 0 = false → targets t (s.get (LANE_MODE_MODE l)) (s.get (LANE_SETPT_SETPT l)) (s.get (LANE_SLEW_SLEW l)))) ∧
    (recTyp r = 15 → Runs (.stepHold n y) s fun t => entered t .run ∧ (a.testBit 0 = true → targets t 0 0 0) ∧
      (a.testBit 0 = false → targets t (s.get (LANE_MODE_MODE l)) (s.get (LANE_SETPT_SETPT l)) (s.get (LANE_SLEW_SLEW l))))

/-- STEP_END, TABLE_RECORD_ENTRY, STEP_LOOP, STEP_JUMPIF and STEP_MARK complete with the loop stack, the jump, the mark and the
result of the chapter. (R227, R228, R229, R233, R234, R235, R242, R246, R247) -/
def Obligations.ControlStepsGoOn : Prop :=
  ∀ (s : State) (n : LaneNo) (y : BitVec 13),
    let l := n.val
    let r := s.record y.toNat
    let loops := popLoops y.toNat (s.eng l).loops
    let rest (k : Nat) : Prop := recTyp (s.record k) = 1 ∧ isTable (s.record k) = false ∧ s.badRecord l (k % 8192) (s.record k) = 0
    let atStep (t : State) (k : Nat) : Prop := (t.eng l).st = .run ∧ (t.eng l).recd = s.record k ∧ t.get (LANE_RSTAT_STEP l) = k % 8192 ∧
      LanesKept s t [l] ∧ StoresKept s t
    let ended (t : State) : Prop := (t.eng l).st = .ended ∧ t.get (LANE_RESULT_REASON l) = 1 ∧ (t.pevt pageRCP).testBit 0 = true ∧
      StoresKept s t
    s.running = true → s.enabled l = true → s.isLead l = true → (s.eng l).st = .run ∨ (s.eng l).st = .barrier →
    s.badRecord l y.toNat r = 0 →
    (recTyp r = 0 → isTable r = false → s.flag (LANE_RSTAT_INFH l) = false → Runs (.stepEnd n y) s fun t => ended t ∧
      ((recW r 1).testBit 0 = true → (t.lane l).chan.st = (s.lane l).chan.st ∧ ((s.eng l).hostCm = [] →
        t.get (LANE_MODE_MODE l) = 0 ∧ t.get (LANE_SETPT_SETPT l) = 0 ∧ t.get (LANE_SLEW_SLEW l) = 0 ∧
        t.get (LANE_VCLMP_VCLMPH l) = (s.eng l).base.clmpH % 65536 ∧ t.get (LANE_ILIM_ILIMD l) = (s.eng l).base.limD % 65536)) ∧
      ((recW r 1).testBit 0 = false → (s.lane l).chan.st = .active → (t.lane l).chan.st = .stopping ∧ t.get (LANE_CHCTL_RUN l) = 0)) ∧
    (isTable r = true → s.flag (LANE_RSTAT_INFH l) = false → Runs (.tableRecordEntry n y) s fun t => ended t ∧
      ((s.lane l).chan.st = .active → (t.lane l).chan.st = .stopping ∧ t.get (LANE_CHCTL_RUN l) = 0)) ∧
    (∀ st k, recTyp r = 11 → loopStep y.toNat (recJump r) (bitsOf (recW r 1) 0 16) loops = some (st, k) → rest k →
      Runs (.stepLoop n y) s fun t => atStep t k ∧ (t.eng l).loops = popLoops (k % 8192) st) ∧
    (recTyp r = 11 → loopStep y.toNat (recJump r) (bitsOf (recW r 1) 0 16) loops = none → Runs (.stepLoop n y) s fun t =>
      (t.eng l).st = .faulted ∧ t.get (LANE_RESULT_REASON l) = 9 ∧ (t.pevt pageRCP).testBit 1 = true) ∧
    (recTyp r = 12 → rest (recJump r) → rest (y.toNat + 1) → Runs (.stepJumpif n y) s fun t =>
      let u := s.modEng l fun e => { e with loops := loops }
      let xs (c : Nat) := if qtyQualified (condQty c) then (s.eng l).hist.take (s.tqual l) else [(s.vCell l, s.iCh l)]
      let holds (c : Nat) : Prop := condCmp c ≠ 0 ∧ u.condTrue l c (xs c) (s.eng l).hasRef = true
      let never : Prop := condCmp (recCond r 0) = 0 ∧ condCmp (recCond r 1) = 0
      (never ∨ holds (recCond r 0) ∨ holds (recCond r 1) → atStep t (recJump r)) ∧
      (¬(never ∨ holds (recCond r 0) ∨ holds (recCond r 1)) → atStep t (y.toNat + 1))) ∧
    (recTyp r = 14 → rest (y.toNat + 1) → Runs (.stepMark n y) s fun t => atStep t (y.toNat + 1) ∧
      (t.eng l).markId = recW r 1 % 256 ∧ (t.eng l).markStep = y.toNat ∧ (t.eng l).rFrame = s.frame ∧
      (t.eng l).rQ = (s.lane l).meas.qAcc ∧ (t.eng l).rE = (s.lane l).meas.eAcc ∧
      ((recW r 2).testBit 0 = true → (t.laneBits 0x1844 0x1848).testBit l = true ∧ (t.pevt pageRCP).testBit 4 = true))

/-- CMD_START, CMD_PAUSE, CMD_RESUME, CMD_ABORT, CMD_SKIP and CMD_GOTO complete in the states that allow them and are rejected with
their event in the others; only the lanes of the channel change. (R242, R245, R246, R247, R248, R251) -/
def Obligations.EngineCommandsAct : Prop :=
  ∀ (s : State) (n : LaneNo),
    let l := n.val
    let e := s.eng l
    let entry := s.get (LANE_RCTL_ENTRY l)
    let rest (k : Nat) : Prop := recTyp (s.record k) = 1 ∧ isTable (s.record k) = false ∧ s.badRecord l (k % 8192) (s.record k) = 0
    let done (t : State) : Prop := t.get (LANE_RCTL_CMD l) = 0 ∧ StoresKept s t
    let rejected (t : State) : Prop := done t ∧ (t.pevt pageRCP).testBit 2 = true ∧ LanesKept s t [] ∧
      RegsKept s t [(LANE_RCTL_CMD l).addr, 0x1810, 0x1818]
    let atStep (t : State) (k : Nat) : Prop := done t ∧ (t.eng l).st = .run ∧ (t.eng l).recd = s.record k ∧
      t.get (LANE_RSTAT_STEP l) = k % 8192 ∧ LanesKept s t [l]
    s.running = true → s.enabled l = true → s.isLead l = true → e.forced = 0 → e.abort = 0 →
    (e.st.running = false → bit (s.rd 0x1808).toNat 0 = true → (s.lane l).chan.st = .closing → Runs (.cmdStart n) s fun t =>
      done t ∧ (t.eng l).st = .starting ∧ (t.eng l).next = some entry ∧ t.get (LANE_CHCTL_RUN l) = 1 ∧
      t.flag (LANE_RSTAT_INFH l) = false ∧ t.get (LANE_RESULT_REASON l) = 0 ∧ LanesKept s t [l]) ∧
    (e.st.running = false → bit (s.rd 0x1808).toNat 0 = true → (s.lane l).chan.st = .safe → s.startRefusal l = 0 →
      Runs (.cmdStart n) s fun t => done t ∧ (t.eng l).st = .starting ∧ (t.lane l).chan.st = .closing ∧
        t.get (LANE_CHCTL_RUN l) = 1 ∧ ∀ k ∈ s.healthy l, (t.lane k).modu.gh = false ∧ (t.lane k).modu.gl = false) ∧
    (e.st.running = true ∨ bit (s.rd 0x1808).toNat 0 = false ∨ (s.lane l).chan.st = .hold ∨ (s.lane l).chan.st = .ramp →
      e.next = none → Runs (.cmdStart n) s rejected) ∧
    (e.st = .run ∨ e.st = .barrier → e.next = none → s.flag (LANE_RCFG_PAUSEMODE l) = false → Runs (.cmdPause n) s fun t => done t ∧
      (t.eng l).st = .paused ∧ (t.eng l).prev = e.st ∧ (t.eng l).pauseT = s.targetsNow l ∧ t.targetsNow l = s.targetsNow l ∧
      LanesKept s t [l]) ∧
    (e.st = .paused → e.next = none → recTyp e.recd ≠ 7 → s.flag (LANE_RCFG_PAUSEMODE l) = false → e.prev = .run →
      Runs (.cmdResume n) s fun t => done t ∧ (t.eng l).st = .run ∧ (t.eng l).recd = e.recd ∧ t.targetsNow l = s.targetsNow l ∧ LanesKept s t [l]) ∧
    (e.st.running = true → (s.lane l).chan.st = .active → Runs (.cmdAbort n) s fun t => done t ∧ (t.eng l).st = .aborted ∧
      t.get (LANE_RESULT_REASON l) = 2 ∧ t.get (LANE_RESULT_QUAL l) = 0 ∧ (t.pevt pageRCP).testBit 1 = true ∧
      t.get (LANE_CHCTL_RUN l) = 0 ∧ (t.lane l).chan.st = .stopping) ∧
    (e.st.running = false → e.next = none → Runs (.cmdAbort n) s fun t => done t ∧ LanesKept s t [l] ∧ (t.eng l).st = e.st) ∧
    (e.st = .run ∨ e.st = .barrier → e.next = none → (s.lane l).chan.st ≠ .safe → rest (s.normalNext l) →
      Runs (.cmdSkip n) s fun t => atStep t (s.normalNext l)) ∧
    (e.st = .run ∨ e.st = .barrier ∨ e.st = .paused → (s.lane l).chan.st ≠ .safe → rest entry →
      Runs (.cmdGoto n) s fun t => atStep t entry) ∧
    (e.st = .idle ∨ e.st = .ended ∨ e.st = .faulted ∨ e.st = .aborted → e.next = none →
      ∀ c ∈ [Instr.cmdPause n, .cmdResume n, .cmdSkip n, .cmdGoto n], Runs c s rejected)

/-- STEP_TIMER_EXPIRY, PHASE_TIMER_EXPIRY, PULSE_LEVEL_CHANGE, OCV_CHECK and TERM_DONE complete, in a frame that brings no limit and no
condition, with the next step, the next level or the fault result; that such a row stands for the evaluation in which its count ends
is the model's choice (assumption 67). (R236, R237, R238, R240, R241, R242, R247, R263, R268) -/
def Obligations.StepTimersLeaveTheStep : Prop :=
  ∀ (s : State) (n : LaneNo),
    let l := n.val
    let e := s.eng l
    let r := e.recd
    let c := s.chg l
    let rest (k : Nat) : Prop := recTyp (s.record k) = 1 ∧ isTable (s.record k) = false ∧ s.badRecord l (k % 8192) (s.record k) = 0
    let y := s.normalNext l
    let atNext (t : State) : Prop := (t.eng l).st = .run ∧ (t.eng l).recd = s.record y ∧ t.get (LANE_RSTAT_STEP l) = y % 8192 ∧
      LanesKept s t [l] ∧ StoresKept s t
    let faulted (t : State) (qual : Nat) : Prop := (t.eng l).st = .faulted ∧ t.get (LANE_RESULT_REASON l) = 6 ∧
      t.get (LANE_RESULT_QUAL l) = qual ∧ (t.pevt pageRCP).testBit 1 = true ∧ t.get (LANE_CHCTL_RUN l) = 0 ∧ StoresKept s t
    let quiet : Prop := condCmp (recCond r 0) = 0 ∧ condCmp (recCond r 1) = 0
    let steady : Prop := nextZone r c.prof c.zone (s.lane l).meas.temp = c.zone ∧ bitsOf (s.get THM_LEVEL_LVL) (4 * bankOf l) 4 = c.lvl ∧
      c.zone.suspends = false
    s.inStep l = true → recW r 7 = 0 →
    (quiet → recTimer r ≠ 0 → recTfault r = false → recTyp r ≠ 7 → recTyp r ≠ 9 → recTyp r ≠ 10 → rest y →
      Runs (.stepTimerExpiry n) s atNext) ∧
    (recTimer r ≠ 0 → recTfault r = true → recTyp r ≠ 7 → s.flag (LANE_RSTAT_INFH l) = false → s.flag (LANE_RCFG_FHEN l) = false →
      Runs (.stepTimerExpiry n) s (faulted · 0)) ∧
    (recTimer r = 0 → Runs (.stepTimerExpiry n) s fun t => t = s) ∧
    (recTyp r = 7 → 0 < phaseLimit c.prof c.phase → steady → s.flag (LANE_RSTAT_INFH l) = false →
      s.flag (LANE_RCFG_FHEN l) = false → Runs (.phaseTimerExpiry n) s fun t =>
        faulted t (if s.chargeRate l = 1 then 1 else 0) ∧ t.flag (LANE_CHGSTAT_PTEXP l) = true) ∧
    (quiet → recTyp r = 8 → e.st = .run → e.held = [] → recTimer r = 0 ∨ e.e + 1 < recTimer r → Runs (.pulseLevelChange n) s fun t =>
      (t.eng l).lvlB = !e.lvlB ∧ (t.eng l).lvlCnt = 0 ∧ (t.eng l).e = e.e + 1 ∧ (t.eng l).recd = r ∧
      t.get (LANE_SETPT_SETPT l) = recW r (if e.lvlB then 1 else 2) ∧
      t.get (LANE_MODE_MODE l) = 0 ∧ t.get (LANE_SLEW_SLEW l) = 0 ∧ LanesKept s t [l] ∧ StoresKept s t) ∧
    (∀ old, quiet → recTyp r = 10 → recTimer r = 0 ∨ ocvBefore r e.e + 1 < recTimer r →
      (s.lane l).meas.pHist.find? (fun x => x.1 + 100000 ≤ s.localFrame) = some old → bitsOf (recW r 1) 0 24 ≠ 0 →
      (absI ((s.lane l).meas.vP - old.2.1) ≤ bitsOf (recW r 1) 0 24 → rest y → s.flag (LANE_ESTCFG_EN l) = false →
        Runs (.ocvCheck n) s fun t => atNext t ∧ (t.eng l).ocvr = (s.lane l).meas.vP) ∧
      ((bitsOf (recW r 1) 0 24 : Int) < absI ((s.lane l).meas.vP - old.2.1) → Runs (.ocvCheck n) s fun t =>
        (t.eng l).st = e.st ∧ (t.eng l).recd = r ∧ (t.eng l).e = ocvBefore r e.e + 1 ∧ LanesKept s t [l] ∧ StoresKept s t ∧
        RegsKept s t [])) ∧
    (quiet → recTyp r = 7 → c.phase = .term → steady → recTimer r = 0 → profVtrk c.prof = 0 ∨ (profVtrk c.prof : Int) * 2000 ≤ s.vCell l →
      rest y → Runs (.termDone n) s fun t => atNext t ∧ (t.chg l).phase = .done ∧ t.flag (LANE_CHGSTAT_ACT l) = false)

/-- TAPER_MINUTE, NEGDV_SECOND and DTDT_MINUTE complete, in a frame that brings nothing of a higher rank: a qualifying period counts,
another clears the count, and the last one ends the phase with its cause; that such a row stands for the evaluation in which its
period ends is the model's choice (assumption 67). (R241, R254, R259, R260, R261, R262, R263, R267, R271) -/
def Obligations.ChargeTrackersCount : Prop :=
  ∀ (s : State) (n : LaneNo),
    let l := n.val
    let e := s.eng l
    let r := e.recd
    let c := s.chg l
    let lim := 2 * phaseLimit c.prof c.phase
    let kept (t : State) : Prop := LanesKept s t [l] ∧ StoresKept s t ∧ (t.eng l).st = .run ∧ (t.eng l).recd = r ∧ (t.eng l).e = e.e + 1 ∧
      (t.chg l).phase = c.phase ∧ (t.chg l).s = c.s + s.chargeRate l ∧ RegsKept s t [(LANE_CHGSTAT_ACT l).addr]
    s.inCharge l = true → e.st = .run → recW r 7 = 0 → condCmp (recCond r 0) = 0 → condCmp (recCond r 1) = 0 →
    recTimer r = 0 ∨ e.e + 1 < recTimer r → lim = 0 ∨ c.s + s.chargeRate l < lim →
    profVtrk c.prof = 0 ∨ (profVtrk c.prof : Int) * 2000 ≤ s.vCell l →
    nextZone r c.prof c.zone (s.lane l).meas.temp = c.zone → bitsOf (s.get THM_LEVEL_LVL) (4 * bankOf l) 4 = c.lvl →
    c.zone.suspends = false →
    (let im := (s.healthy l).foldl (fun x k => x + meanOr (s.lane k).meas.iP ((s.lastSecond k).map (fun e => e.2))) 0
     c.phase = .cv → profTapr c.prof ≠ 0 → c.qMin < s.tqual l → (chgTerm r : Int) * 10000 < s.iCh l →
     (c.lastIm = none → c.stall < 3 → Runs (.taperMinute n) s fun t => kept t ∧ (t.chg l).lastIm = some im ∧ (t.chg l).stall = c.stall ∧
       t.get (LANE_CHGSTAT_STALLN l) = c.stall) ∧
     (∀ old, c.lastIm = some old → c.dirty = false → c.stall < 2 →
       let stalls : Prop := (chgTerm r : Int) * 10000 < im ∧ old * (256 - (profTapr c.prof : Int)) ≤ im * 256
       (stalls → Runs (.taperMinute n) s fun t => kept t ∧ (t.chg l).stall = c.stall + 1 ∧ t.get (LANE_CHGSTAT_STALLN l) = c.stall + 1) ∧
       (¬stalls → Runs (.taperMinute n) s fun t => kept t ∧ (t.chg l).stall = 0 ∧ t.get (LANE_CHGSTAT_STALLN l) = 0)) ∧
     (∀ old, c.lastIm = some old → c.dirty = false → c.stall = 2 → (chgTerm r : Int) * 10000 < im →
       old * (256 - (profTapr c.prof : Int)) ≤ im * 256 → profTtop c.prof ≠ 0 → Runs (.taperMinute n) s fun t =>
         (t.chg l).phase = .term ∧ t.get (LANE_CHGSTAT_TERMC l) = 2 ∧ (t.chg l).s = 0 ∧ LanesKept s t [l] ∧ StoresKept s t)) ∧
    (c.phase = .cc → chgNimh r = true →
      (c.tMin + 1 < 6000000 →
        (c.vPk = none → Runs (.negdvSecond n) s fun t => kept t ∧ (t.chg l).vPk = some (s.meanVolt l) ∧ (t.chg l).ndvRun = 0 ∧
          t.get (LANE_CHGSTAT_NDV l) = 0) ∧
        (∀ pk, c.vPk = some pk →
          let top := max pk (s.meanVolt l)
          let hit : Prop := profDvneg c.prof ≠ 0 ∧ (profDvneg c.prof : Int) * 500 ≤ top - s.meanVolt l
          (¬hit → Runs (.negdvSecond n) s fun t => kept t ∧ (t.chg l).vPk = some top ∧ (t.chg l).ndvRun = 0) ∧
          (hit → c.ndvRun < 2 → Runs (.negdvSecond n) s fun t => kept t ∧ (t.chg l).vPk = some top ∧ (t.chg l).ndvRun = c.ndvRun + 1) ∧
          (hit → c.ndvRun = 2 → profTtop c.prof ≠ 0 → Runs (.negdvSecond n) s fun t => (t.chg l).phase = .term ∧
            t.get (LANE_CHGSTAT_TERMC l) = 3 ∧ LanesKept s t [l] ∧ StoresKept s t))) ∧
      (∀ now old, profDvneg c.prof = 0 → chgTnone r = false → (s.lane l).meas.temp = some now → c.tRef = some old →
        let hit : Prop := profDtdt c.prof ≠ 0 ∧ (profDtdt c.prof : Int) * 5 ≤ now - old
        (¬hit → Runs (.dtdtMinute n) s fun t => kept t ∧ (t.chg l).dtRun = 0 ∧ (t.chg l).tRef = some now) ∧
        (hit → c.dtRun = 0 → Runs (.dtdtMinute n) s fun t => kept t ∧ (t.chg l).dtRun = 1 ∧ (t.chg l).tRef = some now) ∧
        (hit → c.dtRun = 1 → profTtop c.prof ≠ 0 → Runs (.dtdtMinute n) s fun t => (t.chg l).phase = .term ∧
          t.get (LANE_CHGSTAT_TERMC l) = 4 ∧ LanesKept s t [l] ∧ StoresKept s t)))

/-- REST_ANCHOR, TABLE_VALIDATE_DONE, CAP_WRITEBACK and WRITEBACK_DONE complete with the anchor, the validity of each table, the
slot image and the dirty bits of the chapter. (R294, R296, R297, R299, R300, R308, R309, R310) -/
def Obligations.EstimatorCommandsAct : Prop :=
  ∀ (s : State) (n : LaneNo),
    let l := n.val
    let e := s.est l
    let c := s.ocvConvert (s.tableOf l) (s.meanVolt l)
    let m := s.laneBits 0xD40 0xD44
    s.running = true →
    (s.isLead l = true → s.flag (LANE_ESTCFG_EN l) = true → 0 < e.rest → s.resting l = true → s.seededNow l = false →
      let restAt := if e.restAt = 0 then s.nextRest l else e.restAt
      (s.nextRest l ≥ max e.rest (s.restFrames l) ∨ e.restAt ≠ 0) ∧
      (s.tableValid (s.tableOf l) = true → Runs (.restAnchor n) s fun t => (t.est l).rest = s.nextRest l ∧ (t.est l).restAt = restAt ∧
        (t.est l).sa = c.1 ∧ (t.est l).qa = e.qe ∧ (t.est l).qe = e.qe ∧ t.get (LANE_ANCH_ASRC l) = 1 ∧
        t.get (LANE_ANCH_ASOC l) = ((c.1 + 50) / 100).toNat ∧ t.get (LANE_ANCHFRM_FRAME l) = s.frame % 2 ^ 32 ∧
        t.flag (LANE_SOCSTAT_VALID l) = true ∧ t.flag (LANE_SOCSTAT_REST l) = true ∧ (t.est l).shown = true ∧
        LanesKept s t [l] ∧ StoresKept s t ∧
        RegsKept s t [(LANE_SOCSTAT_SOC l).addr, (LANE_ANCH_ASOC l).addr, (LANE_ANCHFRM_FRAME l).addr, (LANE_SOCINT_S l).addr,
          0xD10, 0xD18, 0xD50, 0xD54]) ∧
      (s.tableValid (s.tableOf l) = false → e.badSet = false → Runs (.restAnchor n) s fun t => (t.est l).sa = e.sa ∧
        (t.est l).badSet = true ∧ (t.pevt pageEST).testBit 5 = true ∧ t.flag (LANE_SOCSTAT_REST l) = true ∧
        LanesKept s t [l] ∧ StoresKept s t)) ∧
    (s.flag (LANE_ESTCFG_EN l) = false ∨ e.rest = 0 ∨ s.resting l = false ∨ s.seededNow l = true → Runs (.restAnchor n) s fun t => t = s) ∧
    Runs .tableValidateDone s (fun t => t.estb.check = 0 ∧ t.estb.touched = 0 ∧
      (∀ k, k < 8 → bit (t.get EST_TBLSTAT_VALID) k =
        if bit s.estb.check k then (s.tableCheck k).1 && (s.tableCheck k).2 && !bit s.estb.touched k else bit (s.get EST_TBLSTAT_VALID) k) ∧
      LanesKept s t [] ∧ StoresKept s t ∧ RegsKept s t [EST_TBLSTAT_VALID.addr]) ∧
    (s.coreRuns = true → s.flag EST_WBSTAT_BUSY = false →
      s.flag EST_WBCFG_WBREQ = true ∨ (m ≠ 0 ∧ s.get EST_WBCFG_WBPER ≠ 0) →
      (s.storeUsable = true → Runs .capWriteback s fun t => t.flag EST_WBSTAT_BUSY = true ∧ t.flag EST_WBCFG_WBREQ = false ∧
        t.estb.snap = m ∧ t.estb.slot = (s.wbImage m).1 ∧ t.storeWords (slotBase (s.wbImage m).1) 264 = (s.wbImage m).2 ∧
        LanesKept s t [] ∧ RegsKept s t [EST_WBSTAT_BUSY.addr, EST_WBCFG_WBREQ.addr]) ∧
      (s.storeUsable = false → Runs .capWriteback s fun t => t.get EST_WBSTAT_LRES = 2 ∧ t.flag EST_WBCFG_WBREQ = false ∧
        (t.pevt pageEST).testBit 7 = true ∧ LanesKept s t [] ∧ StoresKept s t)) ∧
    (s.flag EST_WBSTAT_BUSY = true →
      Runs (.writebackDone .matched) s (fun t => t.flag EST_WBSTAT_BUSY = false ∧ t.get EST_WBSTAT_LRES = 1 ∧
        t.get EST_WBSTAT_WSLOT = s.estb.slot % 2 ∧ t.get EST_WBSEQ_SEQ = slotSeq s.estb.image ∧
        t.rd 0xD40 = s.rd 0xD40 &&& ~~~BitVec.ofNat 32 s.estb.snap ∧
        t.rd 0xD44 = s.rd 0xD44 &&& ~~~BitVec.ofNat 32 (s.estb.snap / 2 ^ 32) ∧
        (t.pevt pageEST).testBit 6 = true ∧ LanesKept s t []) ∧
      (∀ ws, Runs (.writebackDone (.differs ws)) s fun t => t.flag EST_WBSTAT_BUSY = false ∧ t.get EST_WBSTAT_LRES = 3 ∧
        t.rd 0xD40 = s.rd 0xD40 ∧ t.rd 0xD44 = s.rd 0xD44 ∧ (t.pevt pageEST).testBit 7 = true ∧ LanesKept s t []) ∧
      Runs (.writebackDone .timedOut) s (fun t => t.flag EST_WBSTAT_BUSY = false ∧ t.get EST_WBSTAT_LRES = 2 ∧
        t.rd 0xD40 = s.rd 0xD40 ∧ t.rd 0xD44 = s.rd 0xD44 ∧ (t.pevt pageEST).testBit 7 = true ∧ LanesKept s t [] ∧ StoresKept s t))

/-- EIS_WINDOW_CLOSE, REPORT_PERIOD_END, TLM_HALF_RELEASE and TLM_LINK_ABANDON complete with the results, sequence numbers, ring
counts and flags of the chapter; the window and the period close with the frame in which they end (assumption 67). (R324, R326, R327, R333, R335, R336, R338, R339, R345, R346, R348) -/
def Obligations.WindowsAndPeriodsClose : Prop :=
  ∀ (s : State) (n : LaneNo),
    let l := n.val
    let w := s.swp l
    let p := s.tlm
    let k := 1 + (s.leads.filter (fun j => p.chen.testBit j)).length
    let b := s.toBoundary.reportMarks
    let e := b.frame
    let ended (t : State) : Prop := t.get TLM_RSTAT_RSEQ = p.rseq % 65536 ∧ t.tlm.rseq = (p.rseq + 1) % 65536 ∧ t.tlm.on = false ∧
      t.tlm.ended = some e ∧ t.tlm.half = 1 - p.half ∧ t.clk.due = true ∧
      (∀ a, a < 0x180000 ∨ 0x1C4000 ≤ a → t.byte a = s.byte a) ∧ t.store = s.store ∧ t.otp = s.otp ∧
      (s.flag TLM_CFG_RINGEN = true → s.flag TLM_CFG_STOP = false → t.get TLM_WCNT_WCNT = (s.get TLM_WCNT_WCNT + k) % 65536)
    s.running = true →
    (s.enabled l = true → s.isLead l = true → s.toneOn l = true → s.frame % max 1 w.cfg.win = 0 → w.live = true →
      w.seen ≠ s.localFrame + 1 →
      let fresh (t : State) : Prop := (t.swp l).whole = true ∧ (t.swp l).n = 0 ∧ (t.swp l).flags = w.marks ||| s.frameFlags l ∧
        (t.swp l).marks = 0 ∧ LanesKept s t [l] ∧ StoresKept s t
      let flags := w.flags ||| s.sampleFlags l
      let vAcc := demod w.cfg s.frame (s.vCell l) w.vAcc
      let iAcc := demod w.cfg s.frame (s.iCh l) w.iAcc
      (w.whole = true → w.settle = 0 → flags &&& 0xBF = 0 → Runs (.eisWindowClose n) s fun t =>
        fresh t ∧ (t.swp l).nval = w.nval + 1 ∧ (t.swp l).vSum = addTones w.vSum vAcc ∧ (t.swp l).iSum = addTones w.iSum iAcc ∧
          t.get (LANE_EISSTAT_NVAL l) = min 255 (w.nval + 1) ∧ t.flag (LANE_EISSTAT_RESOK l) = true ∧
          (t.laneBits 0xE54 0xE58).testBit l = true ∧ (t.pevt pageEIS).testBit 1 = true) ∧
      (w.whole = true → w.settle = 0 → flags &&& 0xBF ≠ 0 → Runs (.eisWindowClose n) s fun t =>
        fresh t ∧ (t.swp l).nval = w.nval ∧ (t.swp l).vSum = w.vSum ∧ (t.pevt pageEIS).testBit 2 = true) ∧
      (w.whole = true → w.settle ≠ 0 → Runs (.eisWindowClose n) s fun t =>
        fresh t ∧ (t.swp l).nval = w.nval ∧ (t.swp l).vSum = w.vSum ∧ (t.swp l).settle = w.settle - 1) ∧
      (w.whole = false → Runs (.eisWindowClose n) s fun t => fresh t ∧ (t.swp l).nval = w.nval ∧ (t.swp l).settle = w.settle)) ∧
    (w.seen = s.localFrame + 1 ∨ s.frame % max 1 w.cfg.win ≠ 0 → Runs (.eisWindowClose n) s fun t => t = s) ∧
    (s.flag CLK_STAT_RELOCKING = false → b.periodReady = true → Runs .reportPeriodEnd s fun t => ended t ∧
      (s.flag TLM_CFG_RINGEN = true → s.flag TLM_CFG_STOP = false → (t.pevt pageTLM).testBit 0 = true) ∧
      (s.flag TLM_CFG_LINKEN = true → ∃ h, t.tlm.drain = p.drain ++ [(p.half, h)] ∧ h.length = k)) ∧
    (b.periodReady = false → Runs .reportPeriodEnd s fun t => t = s) ∧
    (∀ h hs, p.drain = h :: hs → Runs .tlmHalfRelease s fun t => t.tlm = { p with drain := hs } ∧
      t.get TLM_WCNT_LCNT = (s.get TLM_WCNT_LCNT + h.2.length) % 65536 ∧
      t.get TLM_WCNT_WCNT = s.get TLM_WCNT_WCNT ∧ LanesKept s t [] ∧ StoresKept s t) ∧
    (p.drain = [] → Runs .tlmHalfRelease s fun t => t = s) ∧
    (∀ h hs, s.flag CLK_STAT_RELOCKING = false → b.periodOverdue = true → p.drain = h :: hs → s.frz pageTLM = false →
      Runs .tlmLinkAbandon s fun t => ended t ∧ (t.pevt pageTLM).testBit 5 = true ∧
        t.get TLM_CNT2_LINKDROP = min (s.get TLM_CNT2_LINKDROP + 1) 65535 ∧ t.get TLM_WCNT_LCNT = s.get TLM_WCNT_LCNT) ∧
    (b.periodOverdue = false → Runs .tlmLinkAbandon s fun t => t = s)

/-- ROVE_SLOT_START, SPARE_CAL_DONE, MATCH_WINDOW_END, HANDOVER and XREF_READING complete with the phase, the coefficients, the
served input and the events; no other spare changes. (R202, R206, R207, R208, R209, R210, R212, R220) -/
def Obligations.RovingGoesThroughItsVisit : Prop :=
  ∀ (s : State) (q : Fin 8),
    let k := q.val
    let x := s.spare k
    let idx := s.frame / 200000 % 16
    let i := slotInput k idx
    let kept (t : State) : Prop := LanesKept s t [] ∧ StoresKept s t
    let others (t : State) : Prop := ∀ j, j ≠ k → t.spare j = s.spare j
    s.running = true → s.enabled (8 * k) = true →
    (s.canRove k = true → s.canRove (k ^^^ 1) = true → x.phase = 0 → s.faultToPark k = none → s.enabled (inputLane i) = true →
      s.flag ⟨0xC08, 0, 1⟩ = true → Runs (.roveSlotStart q) s fun t => (t.spare k).phase = 1 ∧
        (t.spare k).input = i ∧ (t.spare k).subj = s.server i ∧ kept t ∧ others t ∧ RegsKept s t []) ∧
    (∀ pts, x.phase = 1 → x.park = false → (s.calibrate (128 + k) x.input pts).2 = true → Runs (.spareCalDone q pts) s fun t =>
      (t.spare k).phase = 2 ∧ (t.spare k).ovl = 0 ∧ (t.spare k).sum = 0 ∧ t.cal.coef = (s.calibrate (128 + k) x.input pts).1.cal.coef ∧
        kept t ∧ others t) ∧
    (∀ pts, x.phase = 3 → (s.calibrate x.subj x.input pts).2 = true → Runs (.spareCalDone q pts) s fun t =>
      (t.spare k).phase = 4 ∧ (t.spare k).ovl = 0 ∧ (t.spare k).sum = 0 ∧ t.cal.coef = (s.calibrate x.subj x.input pts).1.cal.coef ∧
        kept t ∧ others t) ∧
    (x.phase = 2 ∨ x.phase = 4 → 10200 ≤ x.ovl → Runs (.matchWindowEnd q) s fun t => (t.spare k).ready = some x.sum ∧ kept t ∧ others t ∧
      ((s.get CAL_MATCH_MATCHTOL : Int) * 10000 * 2 ^ 84 < absI x.sum * 1000000 → (t.pevt pageCAL).testBit 0 = true ∧
        (s.frz pageCAL = false → t.get CAL_EVCNT_DRIFTCNT = min (s.get CAL_EVCNT_DRIFTCNT + 1) 255)) ∧
      (x.phase = 2 → (s.get CAL_MATCH_MISLIM : Int) * 10000 * 2 ^ 84 < absI x.sum * 1000000 → (t.pevt pageCAL).testBit 1 = true)) ∧
    (∀ sum, x.ready = some sum →
      let d := s.toUnit x.input (s.inputRange x.input) (divTrunc sum 10000)
      (x.phase = 2 → Runs (.handover q) s fun t => t.server x.input = 128 + k ∧ (t.spare k).phase = 3 ∧ Ramp.mk x.input d 0 ∈ t.cal.ramps ∧
        others t ∧ StoresKept s t) ∧
      (x.phase = 4 → x.subj = x.input → absI sum * 1000000 ≤ (s.get CAL_MATCH_MISLIM : Int) * 10000 * 2 ^ 84 → Runs (.handover q) s fun t =>
        t.server x.input = x.input ∧ (t.spare k).phase = 0 ∧ Ramp.mk x.input d 0 ∈ t.cal.ramps ∧ others t ∧ StoresKept s t)) ∧
    (∀ raw, s.flag CAL_CFG_XREFEN = true →
      let nom : Int := s.get CAL_XREFV_XREFV
      let vref : Int := s.get CAL_VREFEST_VREF
      let y := s.calY (128 + k) 2 raw * 8389000
      let good : Prop := 2000000 ≤ nom ∧ nom ≤ 5500000 ∧ absI (y - nom * 2 ^ 84) * 1000 ≤ nom * 2 ^ 84 ∧ 0 < y
      (good → Runs (.xrefReading q raw) s fun t => t.cal.xrefOk = true ∧
        t.get CAL_VREFEST_VREF = (vref + divRound (vref * (nom * 2 ^ 84) - vref * y) (16 * y)).toNat % 2 ^ 23 ∧
        kept t ∧ RegsKept s t [CAL_VREFEST_VREF.addr]) ∧
      (¬good → Runs (.xrefReading q raw) s fun t => t.cal.xrefOk = false ∧ (t.pevt pageCAL).testBit 9 = true ∧
        t.get CAL_VREFEST_VREF = s.get CAL_VREFEST_VREF ∧ kept t))

/-- THM_SENSOR_CONVERT, THM_LEVEL_UPDATE and THERMAL_SHUTDOWN complete with the reading or fault, TMAX and PEAK, the automatic
levels, and every channel forced to SAFE. (R372, R373, R374, R377, R379, R380, R384) -/
def Obligations.SensorsAndLevelsFollowTemperature : Prop :=
  ∀ (s : State) (q : Fin 9),
    let b := q.val
    let kept (t : State) : Prop := LanesKept s t [] ∧ StoresKept s t
    let summed (t : State) : Prop := t.getI THM_TMAX_T = t.hottest.1 ∧ t.get THM_TMAX_SRC = t.hottest.2 ∧
      (s.frz pageTHM = false → t.getI THM_PEAK_T = max (s.getI THM_PEAK_T) t.hottest.1) ∧ kept t
    (s.alive = true →
      (∀ r : Int, -5500 ≤ r → r ≤ 17500 → Runs (.thmSensorConvert q (some r)) s fun t => t.getI (THM_TEMP_T b) = r ∧
        t.flag (THM_TEMP_FAULT b) = false ∧ summed t ∧ (b ≠ 8 → t.get CAL_VREFEST_VREF = s.get CAL_VREFEST_VREF)) ∧
      (∀ r : Option Int, r = none ∨ (∃ x, r = some x ∧ (x < -5500 ∨ 17500 < x)) → Runs (.thmSensorConvert q r) s fun t =>
        t.getI (THM_TEMP_T b) = -32768 ∧ t.flag (THM_TEMP_FAULT b) = true ∧ summed t ∧
        (s.flag (THM_TEMP_FAULT b) = false → (t.pevt pageTHM).testBit 4 = true))) ∧
    (let cap := s.get THM_THRCFG_MAXLVL
     let hot := s.degrees THM_THRCFG_TTHR
     s.running = true → s.mode ≠ .deepSleep → s.flag THM_THRCFG_AUTOEN = true → s.thm.updated ≠ some s.localFrame →
       s.frame % (100 * max 1 (s.get THM_THRCFG_TSTEP)) = 0 → Runs .thmLevelUpdate s fun t => kept t ∧ ∀ j, j < 8 →
         let last := s.thm.last.toList.getD j none
         let y := last.getD 0
         (last.isSome = true → hot ≤ y → t.autoLevel j = max (s.autoLevel j) (min cap (s.autoLevel j + 1)) ∧
           (s.autoLevel j + 1 = cap → (t.pevt pageTHM).testBit 1 = true)) ∧
         (last.isSome = true → y < hot - (s.get THM_THRCFG_THYS : Int) * 100 → t.autoLevel j = s.autoLevel j - 1) ∧
         (last = none ∨ (y < hot ∧ hot - (s.get THM_THRCFG_THYS : Int) * 100 ≤ y) → t.autoLevel j = s.autoLevel j)) ∧
    (s.thm.updated = some s.localFrame → Runs .thmLevelUpdate s fun t => t = s) ∧
    (s.psq.st ≠ .powerless → s.rst.inReset = false → Runs (.thermalShutdown q) s fun t => t.flag THM_TSDSTAT_LATCHED = true ∧
      t.get THM_TSDSTAT_SRC = (if s.flag THM_TSDSTAT_LATCHED then s.get THM_TSDSTAT_SRC else b) ∧
      (∀ l ∈ s.leads, (t.lane l).chan.st = .safe ∧ ((s.lane l).chan.st ≠ .safe → ∀ n ∈ s.members l, t.laneDark n)) ∧
      t.flag SYS_FLTSRC_THERMAL = true ∧ (t.pevt pageTHM).testBit 3 = true)

/-- For every trim in force within 511: RTC_SECOND_CARRY carries seconds to years by the lengths of the months, or is suppressed
once after a backward shift, and fires a matching armed alarm; RTC_WAKE_PERIOD sets WKF. The premise on the trim is a clause of
SoundStatesStaySound. (R453, R454, R456, R457, R459, R460) -/
def Obligations.ClockTicksCarryTheCalendar : Prop :=
  ∀ (s : State), s.pl.calp.natAbs ≤ 511 →
    let kept (t : State) : Prop := LanesKept s t [] ∧ StoresKept s t
    let same (t : State) : Prop := t.rd 0x928 = s.rd 0x928 ∧ t.get RTC_CALA_MIN = s.get RTC_CALA_MIN
    Runs .rtcSecondCarry s (fun t => kept t ∧ t.get RTC_CALA_SS ≤ 1 ∧
      (0 < s.pl.supp → t.pl.supp = s.pl.supp - 1 ∧ same t ∧ t.get RTC_CALA_SEC = s.get RTC_CALA_SEC) ∧
      (s.pl.supp = 0 → t.pl.supp = 0 ∧
        (s.get RTC_CALA_SEC < 59 → t.get RTC_CALA_SEC = s.get RTC_CALA_SEC + 1 ∧ same t) ∧
        (s.get RTC_CALA_SEC = 59 → s.get RTC_CALA_MIN < 59 → t.get RTC_CALA_SEC = 0 ∧ t.get RTC_CALA_MIN = s.get RTC_CALA_MIN + 1 ∧
          t.rd 0x928 = s.rd 0x928) ∧
        (s.get RTC_CALA_SEC = 59 → s.get RTC_CALA_MIN = 59 → t.get RTC_CALA_SEC = 0 ∧ t.get RTC_CALA_MIN = 0 ∧
          (s.get RTC_CALB_HOUR < 23 → t.get RTC_CALB_HOUR = s.get RTC_CALB_HOUR + 1 ∧ t.get RTC_CALB_DAY = s.get RTC_CALB_DAY) ∧
          (s.get RTC_CALB_HOUR = 23 → t.get RTC_CALB_HOUR = 0 ∧
            (1 ≤ s.get RTC_CALB_WDAY → t.get RTC_CALB_WDAY = s.get RTC_CALB_WDAY % 7 + 1) ∧
            (s.get RTC_CALB_DAY < dim (s.get RTC_CALB_MONTH) (s.get RTC_CALB_YEAR) → t.get RTC_CALB_DAY = s.get RTC_CALB_DAY + 1 ∧
              t.get RTC_CALB_MONTH = s.get RTC_CALB_MONTH) ∧
            (s.get RTC_CALB_DAY = dim (s.get RTC_CALB_MONTH) (s.get RTC_CALB_YEAR) → t.get RTC_CALB_DAY = 1 ∧
              (s.get RTC_CALB_MONTH < 12 → t.get RTC_CALB_MONTH = s.get RTC_CALB_MONTH + 1 ∧ t.get RTC_CALB_YEAR = s.get RTC_CALB_YEAR) ∧
              (s.get RTC_CALB_MONTH = 12 → t.get RTC_CALB_MONTH = 1 ∧
                (s.get RTC_CALB_YEAR < 99 → t.get RTC_CALB_YEAR = s.get RTC_CALB_YEAR + 1) ∧
                (s.get RTC_CALB_YEAR = 99 → t.get RTC_CALB_YEAR = 0))))) ∧
        (s.flag RTC_PLSTAT_ARMED = true → t.now = s.alarmTime → t.flag RTC_PLSTAT_ARMED = false ∧ t.flag RTC_PLSTAT_ALMF = true))) ∧
    (s.wakeTicks ≠ 0 → Runs .rtcWakePeriod s fun t => kept t ∧ t.flag RTC_PLSTAT_WKF = true ∧ t.pl.wk < s.wakeTicks ∧
      (s.alive = true → (t.pevt pageRTC).testBit 4 = true)) ∧
    (s.wakeTicks = 0 → Runs .rtcWakePeriod s fun t => t = s)

/-- RTC_LOAD, RTC_SHIFT, RTC_SNAP, RTC_ARM, RTC_POP, RTC_ALARM_WRITE, TLOST_CLEAR and PLINTH_WRITE_EFFECT complete with the calendar
that the passing cycles leave (R457) and the effect of the command; while a write crosses each is refused with its event. (R451,
R452, R455, R456, R458, R459, R463, R465, R467) -/
def Obligations.ClockCommandsTakeEffectAtTheirEdge : Prop :=
  ∀ (s : State) (i : Init) (n : Nat),
    let u := s.rtcPass (n - 1)
    let e := u.rtcPass 1
    let done (t : State) : Prop := t.pl.wr = none ∧ LanesKept s t [] ∧ StoresKept s t
    let cal (t : State) : Prop := t.rd 0x924 = e.rd 0x924 ∧ t.rd 0x928 = e.rd 0x928
    let cmds (m : BitVec 4) (hi : Bool) (d : Word) : List Instr :=
      [.rtcLoad i n, .rtcShift i n, .rtcSnap i n, .rtcArm i n, .rtcPop i m n, .rtcAlarmWrite i hi d n, .tlostClear i n]
    (s.Ready i → s.pl.wr = none →
      Runs (.rtcArm i n) s (fun t => done t ∧ t.rd 0x924 = e.rd 0x924 ∧ t.rd 0x928 = e.rd 0x928 ∧
        (u.rtcWraps 1 = 0 → t.flag RTC_PLSTAT_ARMED = true)) ∧
      (∀ m : BitVec 4, Runs (.rtcPop i m n) s fun t => done t ∧ cal t ∧
        ∀ j, j < 4 → t.stamps j = if m.getLsbD j then (s.stamps j).drop 1 else s.stamps j) ∧
      Runs (.rtcSnap i n) s (fun t => done t ∧ cal t ∧ t.rd 0x964 = e.rd 0x924 ∧ t.rd 0x968 = e.rd 0x928 ∧
        t.get RTC_SNAPPTL_T = s.time.ptime % 2 ^ 32 ∧ t.get RTC_SNAPPTH_T = s.time.ptime / 2 ^ 32 % 2 ^ 32 ∧
        (t.pevt pageRTC).testBit 8 = true) ∧
      (let x := (e.get RTC_CALA_SS : Int) + max (-32767) (s.getI RTC_SHIFT_TICKS)
       Runs (.rtcShift i n) s fun t => done t ∧ t.get RTC_CALA_SS = (x % 32768).toNat ∧
         (0 ≤ x → x ≤ 32767 → t.rd 0x928 = e.rd 0x928 ∧ t.get RTC_CALA_SEC = e.get RTC_CALA_SEC ∧ t.pl.supp = e.pl.supp) ∧
         (x < 0 → t.rd 0x928 = e.rd 0x928 ∧ t.get RTC_CALA_SEC = e.get RTC_CALA_SEC ∧ t.pl.supp = e.pl.supp + 1) ∧
         (32767 < x → t.rd 0x928 = e.secondTick.rd 0x928 ∧ t.get RTC_CALA_SEC = e.secondTick.get RTC_CALA_SEC ∧
           t.pl.supp = e.pl.supp - 1)) ∧
      (u.rtcWraps 1 = 0 → Runs (.rtcLoad i n) s fun t => done t ∧ t.rd 0x928 = BitVec.ofNat 32 ((s.rd 0x930).toNat % 2 ^ 24) ∧
        t.get RTC_CALA_SEC = bitsOf (s.rd 0x92C).toNat 15 6 ∧ t.get RTC_CALA_MIN = bitsOf (s.rd 0x92C).toNat 21 6 ∧
        t.get RTC_CALA_SS = e.get RTC_CALA_SS ∧ t.pl.loaded = true ∧
        (u.flag RTC_PLSTAT_ARMED = true → u.now < s.alarmTime → s.alarmTime ≤ t.now →
          t.flag RTC_PLSTAT_ALMF = true ∧ t.flag RTC_PLSTAT_ALMJ = true ∧ t.flag RTC_PLSTAT_ARMED = false)) ∧
      (∀ (hi : Bool) (d : Word),
        let a := if hi then 0x944 else 0x940
        let w := BitVec.ofNat 32 (regRow a).rw
        Runs (.rtcAlarmWrite i hi d n) s fun t => done t ∧ cal t ∧ t.rd a = (s.rd a &&& ~~~w) ||| (d &&& w) ∧
          t.flag RTC_PLSTAT_ARMED = false) ∧
      Runs (.tlostClear i n) s (fun t => done t ∧ cal t ∧ (s.pl.loaded = true → t.flag RTC_PLSTAT_TLOST = false) ∧
        (s.pl.loaded = false → t.flag RTC_PLSTAT_TLOST = s.flag RTC_PLSTAT_TLOST ∧ (t.pevt pageRTC).testBit 7 = true))) ∧
    (s.Ready i → s.pl.wr.isSome = true → ∀ m hi d, ∀ c ∈ cmds m hi d, Runs c s fun t => t.pl = s.pl ∧
      (t.pevt pageRTC).testBit 7 = true ∧ t.rd 0x924 = s.rd 0x924 ∧ t.rd 0x94C = s.rd 0x94C ∧ LanesKept s t [] ∧ StoresKept s t) ∧
    (∀ a v, s.pl.wr = some (a, v) → a ∈ [0x920, 0x93C, 0x950] ∨ (0x980 ≤ a ∧ a < 0x9C0 ∧ a % 4 = 0) →
      Runs (.plinthWriteEffect n) s fun t => done t ∧ cal t ∧
        t.rd a = (s.rd a &&& ~~~BitVec.ofNat 32 (regRow a).rw) ||| (v &&& BitVec.ofNat 32 (regRow a).rw)) ∧
    (s.pl.wr = none → Runs (.plinthWriteEffect n) s fun t => t = s)

/-- EVIN_EDGE, OSC_STOP and PLINTH_SUPPLY_SAMPLE complete with the stamps, flags, source and reset of the chapter. (R449, R450,
R451, R462, R465, R468) -/
def Obligations.PlinthInputsAndSuppliesAct : Prop :=
  ∀ (s : State) (j : Fin 4) (rising held : Bool) (n : Nat),
    let k := j.val
    let u := s.rtcPass n
    let edge := bitsOf (s.get RTC_EVCFG_EDGE) (2 * k) 2
    let taken : Prop := (if rising then edge % 2 = 1 else 2 ≤ edge) ∧ (bit (s.get RTC_EVCFG_FILT) k = true → held = true)
    let kept (t : State) : Prop := LanesKept s t [] ∧ StoresKept s t
    (taken → (s.stamps k).length < 4 → Runs (.evinEdge j rising held n) s fun t => kept t ∧
      t.stamps k = s.stamps k ++ [(BitVec.ofNat 32 ((u.rd 0x924).toNat % 2 ^ 27 + if rising then 2 ^ 27 else 0), u.rd 0x928)] ∧
      (∀ m, m ≠ k → t.stamps m = s.stamps m) ∧ t.flag RTC_PLSTAT_EVF = true ∧ (s.alive = true → (t.pevt pageRTC).testBit 5 = true)) ∧
    (taken → 4 ≤ (s.stamps k).length → Runs (.evinEdge j rising held n) s fun t => kept t ∧ (∀ m, t.stamps m = s.stamps m) ∧
      (t.get RTC_EVSTAT_OVF).testBit k = true ∧ (s.alive = true → (t.pevt pageRTC).testBit 6 = true)) ∧
    (¬taken → Runs (.evinEdge j rising held n) s fun t => t = u) ∧
    (s.alive = true → Runs .oscStop s fun t => kept t ∧ t.flag RTC_PLSTAT_OSCSTOP = true ∧ (t.pevt pageRTC).testBit 1 = true) ∧
    (∀ (vin : VinLevel) (vb : Bool),
      let c := Instr.plinthSupplySample vin vb
      let p := s.pl
      (vin = .below → vb = false → Runs c s fun t => kept t ∧ (∀ a, plinthHeld a = true → t.rd a = resetWord a) ∧
        t.flag RTC_PLSTAT_TLOST = true ∧ t.pl = { Plinth.reset with main := p.main, hold := p.hold - 1, vbak := false } ∧
        (s.alive = true → (t.pevt pageRTC).testBit 0 = true)) ∧
      (vin ≠ .below ∨ vb = true →
        (p.hold ≠ 0 ∨ (p.main = true ∧ vin ≠ .below) ∨ (p.main = false ∧ vin ≠ .above) → Runs c s fun t =>
          t = { s with pl := { p with vbak := vb, hold := p.hold - 1 } }) ∧
        (p.hold = 0 → p.main = false → vin = .above → Runs c s fun t => kept t ∧ t.pl = { p with vbak := vb, hold := 8, main := true }) ∧
        (p.hold = 0 → p.main = true → vin = .below → Runs c s fun t => kept t ∧
          t.pl = { p with vbak := vb, hold := 8, main := false, bakcnt := min 255 (p.bakcnt + 1) } ∧
          (s.frz pageRTC = false → t.get RTC_PWR_BAKCNT = min 255 (p.bakcnt + 1)))))

/-- Every command completes in every state: exec answers a next state for each of the 256 constructors, with whatever operands, so no
command faults and none is refused. For every command c and state s, a step with c in front is exec of c with the queue’s rest. On
an empty queue (the model’s choice, assumption 10) a step advances PTIME by 5 ns and the cycle by one while the clock runs and no
cycle waits for FRAME_BOUNDARY or GRANT_APPLY, and else answers the same state. (R19, R20) -/
def Obligations.StepTakesTheFrontCommand : Prop :=
  (∀ (c : Instr) (s : State), ∃ t, exec c s = .next t) ∧
  (∀ (c : Instr) (s : State) (rest : List Instr), s.pending = c :: rest → step s = exec c { s with pending := rest }) ∧
  (∀ s : State, s.pending = [] → ∃ t, step s = .next t ∧
    (if s.running = true ∧ s.flag CLK_STAT_RELOCKING = false ∧ s.clk.due = false ∧ s.time.cyc ≠ 1999 ∧
        (s.clk.open_ = false ∨ s.time.cyc ≠ 1000) then
      t.time = ⟨s.time.ptime + 5, (s.time.cyc + 1) % 2000, s.time.loc + 5⟩ ∧ t.pending = []
    else t = s))

/-- State.reset satisfies State.Sound. (R84, R85, R125, R457, R462, R486, R517, R529) -/
def Obligations.ResetIsSound : Prop :=
  State.reset.Sound

/-- For every command and every state, the state that exec answers has the queue that it was given, the resets included (the queue
is the model’s own field). (R80, R85) -/
def Obligations.CommandsKeepTheQueue : Prop :=
  ∀ (c : Instr) (s t : State), exec c s = .next t → t.pending = s.pending

/-- From every state that satisfies State.Sound, a step that answers a next state answers one that satisfies it: at most 32 posted
host writes, 16 pending releases, 4 stamps an input and 128 packets a replay buffer; a legal lane count; canonical memories,
store and fuses; PTIME aligned with the cycle; the trim within 511. (R125, R431, R434, R457, R462, R486, R517, R529, R5) -/
def Obligations.SoundStatesStaySound : Prop :=
  ∀ s t : State, s.Sound → step s = .next t → t.Sound

/-- For every state, every logical OTP bit that reads 1 still reads 1 after any step: programming, aborts, resets, power loss and
every other command. (R431, R440, R443) -/
def Obligations.NoStepClearsAFuse : Prop :=
  ∀ (s t : State) (w i : Nat), step s = .next t → s.fuseBit w i = true → t.fuseBit w i = true
end

