-- ==== Sys2Proof/Laws/Sparse.lean ====
section
/-!
SUPPORT. Sys2Proof/Laws/Sparse.lean: the one canonical form of registers, memories and fuses, read after write, and that every
memory operation keeps the form.
-/

namespace Sys2Proof.Machine

variable {α : Type} [DecidableEq α] {d : Nat → α}

theorem sparseOk_mono {n k : Nat} {m : List (Nat × α)} (h : n ≤ k) (hm : sparseOk d k m = true) : sparseOk d n m = true := by
  cases m with
  | nil => rfl
  | cons p m =>
    simp only [sparseOk, Bool.and_eq_true, decide_eq_true_eq] at hm ⊢
    exact ⟨⟨Nat.le_trans h hm.1.1, hm.1.2⟩, hm.2⟩

theorem sparseKeep_ok {n : Nat} {m : List (Nat × α)} (q : Nat → Bool) (h : sparseOk d n m = true) :
    sparseOk d n (sparseKeep q m) = true := by
  induction m generalizing n with
  | nil => rfl
  | cons p m ih =>
    simp only [sparseOk, Bool.and_eq_true, decide_eq_true_eq] at h
    unfold sparseKeep
    rw [List.filter_cons]
    split
    · simp only [sparseOk, Bool.and_eq_true, decide_eq_true_eq]
      exact ⟨h.1, ih h.2⟩
    · exact sparseOk_mono (by omega) (ih h.2)

/-- Dropping entries keeps the canonical form. -/
theorem sparseKeep_wf {m : List (Nat × α)} (q : Nat → Bool) (h : sparseWf d m = true) : sparseWf d (sparseKeep q m) = true :=
  sparseKeep_ok q h

theorem sparseCons_ok {n k : Nat} {v : α} {m : List (Nat × α)} (hn : n ≤ k) (hm : sparseOk d (k + 1) m = true) :
    sparseOk d n (sparseCons d k v m) = true := by
  unfold sparseCons
  split
  · exact sparseOk_mono (by omega) (sparseKeep_ok _ hm)
  · simp only [sparseOk, Bool.and_eq_true, decide_eq_true_eq]
    exact ⟨⟨hn, ‹_›⟩, hm⟩

theorem sparseSet_ok {n k : Nat} {v : α} {m : List (Nat × α)} (hn : n ≤ k) (hm : sparseOk d n m = true) :
    sparseOk d n (sparseSet d m k v) = true := by
  induction m generalizing n with
  | nil => exact sparseCons_ok hn rfl
  | cons p m ih =>
    obtain ⟨j, u⟩ := p
    have h := hm
    simp only [sparseOk, Bool.and_eq_true, decide_eq_true_eq] at h
    obtain ⟨⟨h1, h2⟩, h3⟩ := h
    unfold sparseSet
    split
    · subst_vars; exact sparseCons_ok hn h3
    · split
      · refine sparseCons_ok hn ?_
        simp only [sparseOk, Bool.and_eq_true, decide_eq_true_eq]
        exact ⟨⟨by omega, h2⟩, h3⟩
      · simp only [sparseOk, Bool.and_eq_true, decide_eq_true_eq]
        exact ⟨⟨h1, h2⟩, ih (by omega) h3⟩

/-- A write keeps the canonical form. -/
theorem sparseSet_wf {m : List (Nat × α)} (k : Nat) (v : α) (h : sparseWf d m = true) : sparseWf d (sparseSet d m k v) = true :=
  sparseSet_ok (Nat.zero_le k) h

omit [DecidableEq α] in
theorem sparseGet_keep (q : Nat → Bool) (m : List (Nat × α)) (x : Nat) :
    sparseGet d (sparseKeep q m) x = if q x then sparseGet d m x else d x := by
  induction m with
  | nil => simp [sparseKeep, sparseGet]
  | cons p m ih =>
    obtain ⟨j, u⟩ := p
    unfold sparseKeep at ih ⊢
    rw [List.filter_cons]
    by_cases hx : x = j
    · subst hx
      by_cases hq : q x = true
      · simp [hq, sparseGet]
      · simp only [hq]; rw [if_neg (by simp)] ; rw [ih]; simp [hq]
    · by_cases hq : q j = true
      · simp only [hq, if_true, sparseGet, if_neg hx]; exact ih
      · simp only [hq, sparseGet, if_neg hx]; exact ih

theorem sparseGet_cons (k x : Nat) (v : α) (m : List (Nat × α)) :
    sparseGet d (sparseCons d k v m) x = if x = k then v else sparseGet d m x := by
  unfold sparseCons
  split
  · rename_i hv
    rw [sparseGet_keep]
    by_cases hx : x = k
    · simp [hx, hv]
    · simp [hx]
  · rfl

/-- A read after a write: the value written at its own number, as before at every other. -/
theorem sparseGet_set (m : List (Nat × α)) (k x : Nat) (v : α) :
    sparseGet d (sparseSet d m k v) x = if x = k then v else sparseGet d m x := by
  induction m with
  | nil => rw [sparseSet, sparseGet_cons]
  | cons p m ih =>
    obtain ⟨j, u⟩ := p
    unfold sparseSet
    split
    · subst_vars
      rw [sparseGet_cons]
      by_cases hx : x = j
      · simp [hx]
      · simp [hx, sparseGet]
    · split
      · rw [sparseGet_cons]
      · conv => lhs; unfold sparseGet
        conv => rhs; rhs; unfold sparseGet
        by_cases hx : x = j
        · rw [if_pos hx, if_neg (by omega : ¬ x = k), if_pos hx]
        · rw [if_neg hx, if_neg hx, ih]

/-- What was written is read back. -/
theorem sparseGet_set_self (m : List (Nat × α)) (k : Nat) (v : α) : sparseGet d (sparseSet d m k v) k = v := by
  rw [sparseGet_set, if_pos rfl]

/-- A write leaves every other number alone. -/
theorem sparseGet_set_ne (m : List (Nat × α)) {k x : Nat} (v : α) (hx : x ≠ k) :
    sparseGet d (sparseSet d m k v) x = sparseGet d m x := by rw [sparseGet_set, if_neg hx]

/-! ### Byte memories (R7, R27) -/

theorem writeWordOf_wf {m : List Host.Cell} (a : Nat) (v : Word) (h : Memory.wf m = true) : Memory.wf (writeWordOf m a v) = true :=
  sparseSet_wf _ _ (sparseSet_wf _ _ (sparseSet_wf _ _ (sparseSet_wf _ _ h)))

theorem writeWordsOf_wf {m : List Host.Cell} (a : Nat) (ws : List Word) (h : Memory.wf m = true) :
    Memory.wf (writeWordsOf m a ws) = true := by
  induction ws generalizing m a with
  | nil => exact h
  | cons w ws ih => exact ih _ (writeWordOf_wf a w h)

theorem sparseKeep_mem_wf {m : List Host.Cell} (q : Nat → Bool) (h : Memory.wf m = true) : Memory.wf (sparseKeep q m) = true :=
  sparseKeep_wf q h

/-- A byte outside the word stored reads as before. -/
theorem writeWordOf_other (m : List Host.Cell) {a x : Nat} (v : Word) (hx : x < a ∨ a + 4 ≤ x) :
    sparseGet memDflt (writeWordOf m a v) x = sparseGet memDflt m x := by
  unfold writeWordOf
  dsimp only
  rw [sparseGet_set_ne _ _ (by omega), sparseGet_set_ne _ _ (by omega), sparseGet_set_ne _ _ (by omega),
    sparseGet_set_ne _ _ (by omega)]

/-- The four bytes of the word stored, little-endian. -/
theorem writeWordOf_byte (m : List Host.Cell) (a : Nat) {i : Nat} (v : Word) (hi : i < 4) :
    sparseGet memDflt (writeWordOf m a v) (a + i) = BitVec.ofNat 8 (bitsOf v.toNat (8 * i) 8) := by
  unfold writeWordOf
  dsimp only
  rw [sparseGet_set, sparseGet_set, sparseGet_set, sparseGet_set]
  match i, hi with
  | 0, _ => simp
  | 1, _ => simp
  | 2, _ => simp
  | 3, _ => simp

end Sys2Proof.Machine
end

