-- ==== Sys2Proof/Laws/State.lean ====
section
/-!
SUPPORT. Sys2Proof/Laws/State.lean: what each elementary update leaves of each field of the state, and read after write of
registers, fields and lanes.
-/

namespace Sys2Proof.Machine

/-! ### Fields by updates -/

@[simp] theorem State.wr_stage (s : State) (a : Nat) (v : Word) : (s.wr a v).stage = s.stage := rfl
@[simp] theorem State.wr_arms (s : State) (a : Nat) (v : Word) : (s.wr a v).arms = s.arms := rfl
@[simp] theorem State.wr_latches (s : State) (a : Nat) (v : Word) : (s.wr a v).latches = s.latches := rfl
@[simp] theorem State.wr_mem (s : State) (a : Nat) (v : Word) : (s.wr a v).mem = s.mem := rfl
@[simp] theorem State.wr_store (s : State) (a : Nat) (v : Word) : (s.wr a v).store = s.store := rfl
@[simp] theorem State.wr_time (s : State) (a : Nat) (v : Word) : (s.wr a v).time = s.time := rfl
@[simp] theorem State.wr_hif (s : State) (a : Nat) (v : Word) : (s.wr a v).hif = s.hif := rfl
@[simp] theorem State.wr_psq (s : State) (a : Nat) (v : Word) : (s.wr a v).psq = s.psq := rfl
@[simp] theorem State.wr_rails (s : State) (a : Nat) (v : Word) : (s.wr a v).rails = s.rails := rfl
@[simp] theorem State.wr_clk (s : State) (a : Nat) (v : Word) : (s.wr a v).clk = s.clk := rfl
@[simp] theorem State.wr_rst (s : State) (a : Nat) (v : Word) : (s.wr a v).rst = s.rst := rfl
@[simp] theorem State.wr_pins (s : State) (a : Nat) (v : Word) : (s.wr a v).pins = s.pins := rfl
@[simp] theorem State.wr_mref (s : State) (a : Nat) (v : Word) : (s.wr a v).mref = s.mref := rfl
@[simp] theorem State.wr_lanes (s : State) (a : Nat) (v : Word) : (s.wr a v).lanes = s.lanes := rfl
@[simp] theorem State.wr_otp (s : State) (a : Nat) (v : Word) : (s.wr a v).otp = s.otp := rfl
@[simp] theorem State.wr_shadow (s : State) (a : Nat) (v : Word) : (s.wr a v).shadow = s.shadow := rfl
@[simp] theorem State.wr_link (s : State) (a : Nat) (v : Word) : (s.wr a v).link = s.link := rfl
@[simp] theorem State.wr_outbox (s : State) (a : Nat) (v : Word) : (s.wr a v).outbox = s.outbox := rfl
@[simp] theorem State.wr_recLatches (s : State) (a : Nat) (v : Word) : (s.wr a v).recLatches = s.recLatches := rfl
@[simp] theorem State.wr_evr (s : State) (a : Nat) (v : Word) : (s.wr a v).evr = s.evr := rfl
@[simp] theorem State.wr_cal (s : State) (a : Nat) (v : Word) : (s.wr a v).cal = s.cal := rfl
@[simp] theorem State.wr_tlm (s : State) (a : Nat) (v : Word) : (s.wr a v).tlm = s.tlm := rfl
@[simp] theorem State.wr_lf (s : State) (a : Nat) (v : Word) : (s.wr a v).lf = s.lf := rfl
@[simp] theorem State.wr_estb (s : State) (a : Nat) (v : Word) : (s.wr a v).estb = s.estb := rfl
@[simp] theorem State.wr_bus (s : State) (a : Nat) (v : Word) : (s.wr a v).bus = s.bus := rfl
@[simp] theorem State.wr_efu (s : State) (a : Nat) (v : Word) : (s.wr a v).efu = s.efu := rfl
@[simp] theorem State.wr_thm (s : State) (a : Nat) (v : Word) : (s.wr a v).thm = s.thm := rfl
@[simp] theorem State.wr_core (s : State) (a : Nat) (v : Word) : (s.wr a v).core = s.core := rfl
@[simp] theorem State.wr_wdg (s : State) (a : Nat) (v : Word) : (s.wr a v).wdg = s.wdg := rfl
@[simp] theorem State.wr_dbg (s : State) (a : Nat) (v : Word) : (s.wr a v).dbg = s.dbg := rfl
@[simp] theorem State.wr_otpc (s : State) (a : Nat) (v : Word) : (s.wr a v).otpc = s.otpc := rfl
@[simp] theorem State.wr_pl (s : State) (a : Nat) (v : Word) : (s.wr a v).pl = s.pl := rfl
@[simp] theorem State.wr_ports (s : State) (a : Nat) (v : Word) : (s.wr a v).ports = s.ports := rfl
@[simp] theorem State.wr_rxq (s : State) (a : Nat) (v : Word) : (s.wr a v).rxq = s.rxq := rfl
@[simp] theorem State.wr_ptm (s : State) (a : Nat) (v : Word) : (s.wr a v).ptm = s.ptm := rfl
@[simp] theorem State.wr_rel (s : State) (a : Nat) (v : Word) : (s.wr a v).rel = s.rel := rfl
@[simp] theorem State.wr_pending (s : State) (a : Nat) (v : Word) : (s.wr a v).pending = s.pending := rfl
@[simp] theorem State.wr_free (s : State) (a : Nat) (v : Word) : (s.wr a v).free = s.free := rfl

@[simp] theorem State.put_stage (s : State) (x : Fld) (v : Nat) : (s.put x v).stage = s.stage := rfl
@[simp] theorem State.put_arms (s : State) (x : Fld) (v : Nat) : (s.put x v).arms = s.arms := rfl
@[simp] theorem State.put_latches (s : State) (x : Fld) (v : Nat) : (s.put x v).latches = s.latches := rfl
@[simp] theorem State.put_mem (s : State) (x : Fld) (v : Nat) : (s.put x v).mem = s.mem := rfl
@[simp] theorem State.put_store (s : State) (x : Fld) (v : Nat) : (s.put x v).store = s.store := rfl
@[simp] theorem State.put_time (s : State) (x : Fld) (v : Nat) : (s.put x v).time = s.time := rfl
@[simp] theorem State.put_hif (s : State) (x : Fld) (v : Nat) : (s.put x v).hif = s.hif := rfl
@[simp] theorem State.put_psq (s : State) (x : Fld) (v : Nat) : (s.put x v).psq = s.psq := rfl
@[simp] theorem State.put_rails (s : State) (x : Fld) (v : Nat) : (s.put x v).rails = s.rails := rfl
@[simp] theorem State.put_clk (s : State) (x : Fld) (v : Nat) : (s.put x v).clk = s.clk := rfl
@[simp] theorem State.put_rst (s : State) (x : Fld) (v : Nat) : (s.put x v).rst = s.rst := rfl
@[simp] theorem State.put_pins (s : State) (x : Fld) (v : Nat) : (s.put x v).pins = s.pins := rfl
@[simp] theorem State.put_mref (s : State) (x : Fld) (v : Nat) : (s.put x v).mref = s.mref := rfl
@[simp] theorem State.put_lanes (s : State) (x : Fld) (v : Nat) : (s.put x v).lanes = s.lanes := rfl
@[simp] theorem State.put_otp (s : State) (x : Fld) (v : Nat) : (s.put x v).otp = s.otp := rfl
@[simp] theorem State.put_shadow (s : State) (x : Fld) (v : Nat) : (s.put x v).shadow = s.shadow := rfl
@[simp] theorem State.put_link (s : State) (x : Fld) (v : Nat) : (s.put x v).link = s.link := rfl
@[simp] theorem State.put_outbox (s : State) (x : Fld) (v : Nat) : (s.put x v).outbox = s.outbox := rfl
@[simp] theorem State.put_recLatches (s : State) (x : Fld) (v : Nat) : (s.put x v).recLatches = s.recLatches := rfl
@[simp] theorem State.put_evr (s : State) (x : Fld) (v : Nat) : (s.put x v).evr = s.evr := rfl
@[simp] theorem State.put_cal (s : State) (x : Fld) (v : Nat) : (s.put x v).cal = s.cal := rfl
@[simp] theorem State.put_tlm (s : State) (x : Fld) (v : Nat) : (s.put x v).tlm = s.tlm := rfl
@[simp] theorem State.put_lf (s : State) (x : Fld) (v : Nat) : (s.put x v).lf = s.lf := rfl
@[simp] theorem State.put_estb (s : State) (x : Fld) (v : Nat) : (s.put x v).estb = s.estb := rfl
@[simp] theorem State.put_bus (s : State) (x : Fld) (v : Nat) : (s.put x v).bus = s.bus := rfl
@[simp] theorem State.put_efu (s : State) (x : Fld) (v : Nat) : (s.put x v).efu = s.efu := rfl
@[simp] theorem State.put_thm (s : State) (x : Fld) (v : Nat) : (s.put x v).thm = s.thm := rfl
@[simp] theorem State.put_core (s : State) (x : Fld) (v : Nat) : (s.put x v).core = s.core := rfl
@[simp] theorem State.put_wdg (s : State) (x : Fld) (v : Nat) : (s.put x v).wdg = s.wdg := rfl
@[simp] theorem State.put_dbg (s : State) (x : Fld) (v : Nat) : (s.put x v).dbg = s.dbg := rfl
@[simp] theorem State.put_otpc (s : State) (x : Fld) (v : Nat) : (s.put x v).otpc = s.otpc := rfl
@[simp] theorem State.put_pl (s : State) (x : Fld) (v : Nat) : (s.put x v).pl = s.pl := rfl
@[simp] theorem State.put_ports (s : State) (x : Fld) (v : Nat) : (s.put x v).ports = s.ports := rfl
@[simp] theorem State.put_rxq (s : State) (x : Fld) (v : Nat) : (s.put x v).rxq = s.rxq := rfl
@[simp] theorem State.put_ptm (s : State) (x : Fld) (v : Nat) : (s.put x v).ptm = s.ptm := rfl
@[simp] theorem State.put_rel (s : State) (x : Fld) (v : Nat) : (s.put x v).rel = s.rel := rfl
@[simp] theorem State.put_pending (s : State) (x : Fld) (v : Nat) : (s.put x v).pending = s.pending := rfl
@[simp] theorem State.put_free (s : State) (x : Fld) (v : Nat) : (s.put x v).free = s.free := rfl

@[simp] theorem State.putI_stage (s : State) (x : Fld) (v : Int) : (s.putI x v).stage = s.stage := rfl
@[simp] theorem State.putI_arms (s : State) (x : Fld) (v : Int) : (s.putI x v).arms = s.arms := rfl
@[simp] theorem State.putI_latches (s : State) (x : Fld) (v : Int) : (s.putI x v).latches = s.latches := rfl
@[simp] theorem State.putI_mem (s : State) (x : Fld) (v : Int) : (s.putI x v).mem = s.mem := rfl
@[simp] theorem State.putI_store (s : State) (x : Fld) (v : Int) : (s.putI x v).store = s.store := rfl
@[simp] theorem State.putI_time (s : State) (x : Fld) (v : Int) : (s.putI x v).time = s.time := rfl
@[simp] theorem State.putI_hif (s : State) (x : Fld) (v : Int) : (s.putI x v).hif = s.hif := rfl
@[simp] theorem State.putI_psq (s : State) (x : Fld) (v : Int) : (s.putI x v).psq = s.psq := rfl
@[simp] theorem State.putI_rails (s : State) (x : Fld) (v : Int) : (s.putI x v).rails = s.rails := rfl
@[simp] theorem State.putI_clk (s : State) (x : Fld) (v : Int) : (s.putI x v).clk = s.clk := rfl
@[simp] theorem State.putI_rst (s : State) (x : Fld) (v : Int) : (s.putI x v).rst = s.rst := rfl
@[simp] theorem State.putI_pins (s : State) (x : Fld) (v : Int) : (s.putI x v).pins = s.pins := rfl
@[simp] theorem State.putI_mref (s : State) (x : Fld) (v : Int) : (s.putI x v).mref = s.mref := rfl
@[simp] theorem State.putI_lanes (s : State) (x : Fld) (v : Int) : (s.putI x v).lanes = s.lanes := rfl
@[simp] theorem State.putI_otp (s : State) (x : Fld) (v : Int) : (s.putI x v).otp = s.otp := rfl
@[simp] theorem State.putI_shadow (s : State) (x : Fld) (v : Int) : (s.putI x v).shadow = s.shadow := rfl
@[simp] theorem State.putI_link (s : State) (x : Fld) (v : Int) : (s.putI x v).link = s.link := rfl
@[simp] theorem State.putI_outbox (s : State) (x : Fld) (v : Int) : (s.putI x v).outbox = s.outbox := rfl
@[simp] theorem State.putI_recLatches (s : State) (x : Fld) (v : Int) : (s.putI x v).recLatches = s.recLatches := rfl
@[simp] theorem State.putI_evr (s : State) (x : Fld) (v : Int) : (s.putI x v).evr = s.evr := rfl
@[simp] theorem State.putI_cal (s : State) (x : Fld) (v : Int) : (s.putI x v).cal = s.cal := rfl
@[simp] theorem State.putI_tlm (s : State) (x : Fld) (v : Int) : (s.putI x v).tlm = s.tlm := rfl
@[simp] theorem State.putI_lf (s : State) (x : Fld) (v : Int) : (s.putI x v).lf = s.lf := rfl
@[simp] theorem State.putI_estb (s : State) (x : Fld) (v : Int) : (s.putI x v).estb = s.estb := rfl
@[simp] theorem State.putI_bus (s : State) (x : Fld) (v : Int) : (s.putI x v).bus = s.bus := rfl
@[simp] theorem State.putI_efu (s : State) (x : Fld) (v : Int) : (s.putI x v).efu = s.efu := rfl
@[simp] theorem State.putI_thm (s : State) (x : Fld) (v : Int) : (s.putI x v).thm = s.thm := rfl
@[simp] theorem State.putI_core (s : State) (x : Fld) (v : Int) : (s.putI x v).core = s.core := rfl
@[simp] theorem State.putI_wdg (s : State) (x : Fld) (v : Int) : (s.putI x v).wdg = s.wdg := rfl
@[simp] theorem State.putI_dbg (s : State) (x : Fld) (v : Int) : (s.putI x v).dbg = s.dbg := rfl
@[simp] theorem State.putI_otpc (s : State) (x : Fld) (v : Int) : (s.putI x v).otpc = s.otpc := rfl
@[simp] theorem State.putI_pl (s : State) (x : Fld) (v : Int) : (s.putI x v).pl = s.pl := rfl
@[simp] theorem State.putI_ports (s : State) (x : Fld) (v : Int) : (s.putI x v).ports = s.ports := rfl
@[simp] theorem State.putI_rxq (s : State) (x : Fld) (v : Int) : (s.putI x v).rxq = s.rxq := rfl
@[simp] theorem State.putI_ptm (s : State) (x : Fld) (v : Int) : (s.putI x v).ptm = s.ptm := rfl
@[simp] theorem State.putI_rel (s : State) (x : Fld) (v : Int) : (s.putI x v).rel = s.rel := rfl
@[simp] theorem State.putI_pending (s : State) (x : Fld) (v : Int) : (s.putI x v).pending = s.pending := rfl
@[simp] theorem State.putI_free (s : State) (x : Fld) (v : Int) : (s.putI x v).free = s.free := rfl

@[simp] theorem State.putB_stage (s : State) (x : Fld) (b : Bool) : (s.putB x b).stage = s.stage := rfl
@[simp] theorem State.putB_arms (s : State) (x : Fld) (b : Bool) : (s.putB x b).arms = s.arms := rfl
@[simp] theorem State.putB_latches (s : State) (x : Fld) (b : Bool) : (s.putB x b).latches = s.latches := rfl
@[simp] theorem State.putB_mem (s : State) (x : Fld) (b : Bool) : (s.putB x b).mem = s.mem := rfl
@[simp] theorem State.putB_store (s : State) (x : Fld) (b : Bool) : (s.putB x b).store = s.store := rfl
@[simp] theorem State.putB_time (s : State) (x : Fld) (b : Bool) : (s.putB x b).time = s.time := rfl
@[simp] theorem State.putB_hif (s : State) (x : Fld) (b : Bool) : (s.putB x b).hif = s.hif := rfl
@[simp] theorem State.putB_psq (s : State) (x : Fld) (b : Bool) : (s.putB x b).psq = s.psq := rfl
@[simp] theorem State.putB_rails (s : State) (x : Fld) (b : Bool) : (s.putB x b).rails = s.rails := rfl
@[simp] theorem State.putB_clk (s : State) (x : Fld) (b : Bool) : (s.putB x b).clk = s.clk := rfl
@[simp] theorem State.putB_rst (s : State) (x : Fld) (b : Bool) : (s.putB x b).rst = s.rst := rfl
@[simp] theorem State.putB_pins (s : State) (x : Fld) (b : Bool) : (s.putB x b).pins = s.pins := rfl
@[simp] theorem State.putB_mref (s : State) (x : Fld) (b : Bool) : (s.putB x b).mref = s.mref := rfl
@[simp] theorem State.putB_lanes (s : State) (x : Fld) (b : Bool) : (s.putB x b).lanes = s.lanes := rfl
@[simp] theorem State.putB_otp (s : State) (x : Fld) (b : Bool) : (s.putB x b).otp = s.otp := rfl
@[simp] theorem State.putB_shadow (s : State) (x : Fld) (b : Bool) : (s.putB x b).shadow = s.shadow := rfl
@[simp] theorem State.putB_link (s : State) (x : Fld) (b : Bool) : (s.putB x b).link = s.link := rfl
@[simp] theorem State.putB_outbox (s : State) (x : Fld) (b : Bool) : (s.putB x b).outbox = s.outbox := rfl
@[simp] theorem State.putB_recLatches (s : State) (x : Fld) (b : Bool) : (s.putB x b).recLatches = s.recLatches := rfl
@[simp] theorem State.putB_evr (s : State) (x : Fld) (b : Bool) : (s.putB x b).evr = s.evr := rfl
@[simp] theorem State.putB_cal (s : State) (x : Fld) (b : Bool) : (s.putB x b).cal = s.cal := rfl
@[simp] theorem State.putB_tlm (s : State) (x : Fld) (b : Bool) : (s.putB x b).tlm = s.tlm := rfl
@[simp] theorem State.putB_lf (s : State) (x : Fld) (b : Bool) : (s.putB x b).lf = s.lf := rfl
@[simp] theorem State.putB_estb (s : State) (x : Fld) (b : Bool) : (s.putB x b).estb = s.estb := rfl
@[simp] theorem State.putB_bus (s : State) (x : Fld) (b : Bool) : (s.putB x b).bus = s.bus := rfl
@[simp] theorem State.putB_efu (s : State) (x : Fld) (b : Bool) : (s.putB x b).efu = s.efu := rfl
@[simp] theorem State.putB_thm (s : State) (x : Fld) (b : Bool) : (s.putB x b).thm = s.thm := rfl
@[simp] theorem State.putB_core (s : State) (x : Fld) (b : Bool) : (s.putB x b).core = s.core := rfl
@[simp] theorem State.putB_wdg (s : State) (x : Fld) (b : Bool) : (s.putB x b).wdg = s.wdg := rfl
@[simp] theorem State.putB_dbg (s : State) (x : Fld) (b : Bool) : (s.putB x b).dbg = s.dbg := rfl
@[simp] theorem State.putB_otpc (s : State) (x : Fld) (b : Bool) : (s.putB x b).otpc = s.otpc := rfl
@[simp] theorem State.putB_pl (s : State) (x : Fld) (b : Bool) : (s.putB x b).pl = s.pl := rfl
@[simp] theorem State.putB_ports (s : State) (x : Fld) (b : Bool) : (s.putB x b).ports = s.ports := rfl
@[simp] theorem State.putB_rxq (s : State) (x : Fld) (b : Bool) : (s.putB x b).rxq = s.rxq := rfl
@[simp] theorem State.putB_ptm (s : State) (x : Fld) (b : Bool) : (s.putB x b).ptm = s.ptm := rfl
@[simp] theorem State.putB_rel (s : State) (x : Fld) (b : Bool) : (s.putB x b).rel = s.rel := rfl
@[simp] theorem State.putB_pending (s : State) (x : Fld) (b : Bool) : (s.putB x b).pending = s.pending := rfl
@[simp] theorem State.putB_free (s : State) (x : Fld) (b : Bool) : (s.putB x b).free = s.free := rfl

@[simp] theorem State.setStaged_regs (s : State) (a : Nat) (x : Option Staged) : (s.setStaged a x).regs = s.regs := rfl
@[simp] theorem State.setStaged_arms (s : State) (a : Nat) (x : Option Staged) : (s.setStaged a x).arms = s.arms := rfl
@[simp] theorem State.setStaged_latches (s : State) (a : Nat) (x : Option Staged) : (s.setStaged a x).latches = s.latches := rfl
@[simp] theorem State.setStaged_mem (s : State) (a : Nat) (x : Option Staged) : (s.setStaged a x).mem = s.mem := rfl
@[simp] theorem State.setStaged_store (s : State) (a : Nat) (x : Option Staged) : (s.setStaged a x).store = s.store := rfl
@[simp] theorem State.setStaged_time (s : State) (a : Nat) (x : Option Staged) : (s.setStaged a x).time = s.time := rfl
@[simp] theorem State.setStaged_hif (s : State) (a : Nat) (x : Option Staged) : (s.setStaged a x).hif = s.hif := rfl
@[simp] theorem State.setStaged_psq (s : State) (a : Nat) (x : Option Staged) : (s.setStaged a x).psq = s.psq := rfl
@[simp] theorem State.setStaged_rails (s : State) (a : Nat) (x : Option Staged) : (s.setStaged a x).rails = s.rails := rfl
@[simp] theorem State.setStaged_clk (s : State) (a : Nat) (x : Option Staged) : (s.setStaged a x).clk = s.clk := rfl
@[simp] theorem State.setStaged_rst (s : State) (a : Nat) (x : Option Staged) : (s.setStaged a x).rst = s.rst := rfl
@[simp] theorem State.setStaged_pins (s : State) (a : Nat) (x : Option Staged) : (s.setStaged a x).pins = s.pins := rfl
@[simp] theorem State.setStaged_mref (s : State) (a : Nat) (x : Option Staged) : (s.setStaged a x).mref = s.mref := rfl
@[simp] theorem State.setStaged_lanes (s : State) (a : Nat) (x : Option Staged) : (s.setStaged a x).lanes = s.lanes := rfl
@[simp] theorem State.setStaged_otp (s : State) (a : Nat) (x : Option Staged) : (s.setStaged a x).otp = s.otp := rfl
@[simp] theorem State.setStaged_shadow (s : State) (a : Nat) (x : Option Staged) : (s.setStaged a x).shadow = s.shadow := rfl
@[simp] theorem State.setStaged_link (s : State) (a : Nat) (x : Option Staged) : (s.setStaged a x).link = s.link := rfl
@[simp] theorem State.setStaged_outbox (s : State) (a : Nat) (x : Option Staged) : (s.setStaged a x).outbox = s.outbox := rfl
@[simp] theorem State.setStaged_recLatches (s : State) (a : Nat) (x : Option Staged) : (s.setStaged a x).recLatches = s.recLatches := rfl
@[simp] theorem State.setStaged_evr (s : State) (a : Nat) (x : Option Staged) : (s.setStaged a x).evr = s.evr := rfl
@[simp] theorem State.setStaged_cal (s : State) (a : Nat) (x : Option Staged) : (s.setStaged a x).cal = s.cal := rfl
@[simp] theorem State.setStaged_tlm (s : State) (a : Nat) (x : Option Staged) : (s.setStaged a x).tlm = s.tlm := rfl
@[simp] theorem State.setStaged_lf (s : State) (a : Nat) (x : Option Staged) : (s.setStaged a x).lf = s.lf := rfl
@[simp] theorem State.setStaged_estb (s : State) (a : Nat) (x : Option Staged) : (s.setStaged a x).estb = s.estb := rfl
@[simp] theorem State.setStaged_bus (s : State) (a : Nat) (x : Option Staged) : (s.setStaged a x).bus = s.bus := rfl
@[simp] theorem State.setStaged_efu (s : State) (a : Nat) (x : Option Staged) : (s.setStaged a x).efu = s.efu := rfl
@[simp] theorem State.setStaged_thm (s : State) (a : Nat) (x : Option Staged) : (s.setStaged a x).thm = s.thm := rfl
@[simp] theorem State.setStaged_core (s : State) (a : Nat) (x : Option Staged) : (s.setStaged a x).core = s.core := rfl
@[simp] theorem State.setStaged_wdg (s : State) (a : Nat) (x : Option Staged) : (s.setStaged a x).wdg = s.wdg := rfl
@[simp] theorem State.setStaged_dbg (s : State) (a : Nat) (x : Option Staged) : (s.setStaged a x).dbg = s.dbg := rfl
@[simp] theorem State.setStaged_otpc (s : State) (a : Nat) (x : Option Staged) : (s.setStaged a x).otpc = s.otpc := rfl
@[simp] theorem State.setStaged_pl (s : State) (a : Nat) (x : Option Staged) : (s.setStaged a x).pl = s.pl := rfl
@[simp] theorem State.setStaged_ports (s : State) (a : Nat) (x : Option Staged) : (s.setStaged a x).ports = s.ports := rfl
@[simp] theorem State.setStaged_rxq (s : State) (a : Nat) (x : Option Staged) : (s.setStaged a x).rxq = s.rxq := rfl
@[simp] theorem State.setStaged_ptm (s : State) (a : Nat) (x : Option Staged) : (s.setStaged a x).ptm = s.ptm := rfl
@[simp] theorem State.setStaged_rel (s : State) (a : Nat) (x : Option Staged) : (s.setStaged a x).rel = s.rel := rfl
@[simp] theorem State.setStaged_pending (s : State) (a : Nat) (x : Option Staged) : (s.setStaged a x).pending = s.pending := rfl
@[simp] theorem State.setStaged_free (s : State) (a : Nat) (x : Option Staged) : (s.setStaged a x).free = s.free := rfl

@[simp] theorem State.setLane_regs (s : State) (l : Nat) (x : Lane) : (s.setLane l x).regs = s.regs := rfl
@[simp] theorem State.setLane_stage (s : State) (l : Nat) (x : Lane) : (s.setLane l x).stage = s.stage := rfl
@[simp] theorem State.setLane_arms (s : State) (l : Nat) (x : Lane) : (s.setLane l x).arms = s.arms := rfl
@[simp] theorem State.setLane_latches (s : State) (l : Nat) (x : Lane) : (s.setLane l x).latches = s.latches := rfl
@[simp] theorem State.setLane_mem (s : State) (l : Nat) (x : Lane) : (s.setLane l x).mem = s.mem := rfl
@[simp] theorem State.setLane_store (s : State) (l : Nat) (x : Lane) : (s.setLane l x).store = s.store := rfl
@[simp] theorem State.setLane_time (s : State) (l : Nat) (x : Lane) : (s.setLane l x).time = s.time := rfl
@[simp] theorem State.setLane_hif (s : State) (l : Nat) (x : Lane) : (s.setLane l x).hif = s.hif := rfl
@[simp] theorem State.setLane_psq (s : State) (l : Nat) (x : Lane) : (s.setLane l x).psq = s.psq := rfl
@[simp] theorem State.setLane_rails (s : State) (l : Nat) (x : Lane) : (s.setLane l x).rails = s.rails := rfl
@[simp] theorem State.setLane_clk (s : State) (l : Nat) (x : Lane) : (s.setLane l x).clk = s.clk := rfl
@[simp] theorem State.setLane_rst (s : State) (l : Nat) (x : Lane) : (s.setLane l x).rst = s.rst := rfl
@[simp] theorem State.setLane_pins (s : State) (l : Nat) (x : Lane) : (s.setLane l x).pins = s.pins := rfl
@[simp] theorem State.setLane_mref (s : State) (l : Nat) (x : Lane) : (s.setLane l x).mref = s.mref := rfl
@[simp] theorem State.setLane_otp (s : State) (l : Nat) (x : Lane) : (s.setLane l x).otp = s.otp := rfl
@[simp] theorem State.setLane_shadow (s : State) (l : Nat) (x : Lane) : (s.setLane l x).shadow = s.shadow := rfl
@[simp] theorem State.setLane_link (s : State) (l : Nat) (x : Lane) : (s.setLane l x).link = s.link := rfl
@[simp] theorem State.setLane_outbox (s : State) (l : Nat) (x : Lane) : (s.setLane l x).outbox = s.outbox := rfl
@[simp] theorem State.setLane_recLatches (s : State) (l : Nat) (x : Lane) : (s.setLane l x).recLatches = s.recLatches := rfl
@[simp] theorem State.setLane_evr (s : State) (l : Nat) (x : Lane) : (s.setLane l x).evr = s.evr := rfl
@[simp] theorem State.setLane_cal (s : State) (l : Nat) (x : Lane) : (s.setLane l x).cal = s.cal := rfl
@[simp] theorem State.setLane_tlm (s : State) (l : Nat) (x : Lane) : (s.setLane l x).tlm = s.tlm := rfl
@[simp] theorem State.setLane_lf (s : State) (l : Nat) (x : Lane) : (s.setLane l x).lf = s.lf := rfl
@[simp] theorem State.setLane_estb (s : State) (l : Nat) (x : Lane) : (s.setLane l x).estb = s.estb := rfl
@[simp] theorem State.setLane_bus (s : State) (l : Nat) (x : Lane) : (s.setLane l x).bus = s.bus := rfl
@[simp] theorem State.setLane_efu (s : State) (l : Nat) (x : Lane) : (s.setLane l x).efu = s.efu := rfl
@[simp] theorem State.setLane_thm (s : State) (l : Nat) (x : Lane) : (s.setLane l x).thm = s.thm := rfl
@[simp] theorem State.setLane_core (s : State) (l : Nat) (x : Lane) : (s.setLane l x).core = s.core := rfl
@[simp] theorem State.setLane_wdg (s : State) (l : Nat) (x : Lane) : (s.setLane l x).wdg = s.wdg := rfl
@[simp] theorem State.setLane_dbg (s : State) (l : Nat) (x : Lane) : (s.setLane l x).dbg = s.dbg := rfl
@[simp] theorem State.setLane_otpc (s : State) (l : Nat) (x : Lane) : (s.setLane l x).otpc = s.otpc := rfl
@[simp] theorem State.setLane_pl (s : State) (l : Nat) (x : Lane) : (s.setLane l x).pl = s.pl := rfl
@[simp] theorem State.setLane_ports (s : State) (l : Nat) (x : Lane) : (s.setLane l x).ports = s.ports := rfl
@[simp] theorem State.setLane_rxq (s : State) (l : Nat) (x : Lane) : (s.setLane l x).rxq = s.rxq := rfl
@[simp] theorem State.setLane_ptm (s : State) (l : Nat) (x : Lane) : (s.setLane l x).ptm = s.ptm := rfl
@[simp] theorem State.setLane_rel (s : State) (l : Nat) (x : Lane) : (s.setLane l x).rel = s.rel := rfl
@[simp] theorem State.setLane_pending (s : State) (l : Nat) (x : Lane) : (s.setLane l x).pending = s.pending := rfl
@[simp] theorem State.setLane_free (s : State) (l : Nat) (x : Lane) : (s.setLane l x).free = s.free := rfl

@[simp] theorem State.modLane_regs (s : State) (l : Nat) (g : Lane → Lane) : (s.modLane l g).regs = s.regs := rfl
@[simp] theorem State.modLane_stage (s : State) (l : Nat) (g : Lane → Lane) : (s.modLane l g).stage = s.stage := rfl
@[simp] theorem State.modLane_arms (s : State) (l : Nat) (g : Lane → Lane) : (s.modLane l g).arms = s.arms := rfl
@[simp] theorem State.modLane_latches (s : State) (l : Nat) (g : Lane → Lane) : (s.modLane l g).latches = s.latches := rfl
@[simp] theorem State.modLane_mem (s : State) (l : Nat) (g : Lane → Lane) : (s.modLane l g).mem = s.mem := rfl
@[simp] theorem State.modLane_store (s : State) (l : Nat) (g : Lane → Lane) : (s.modLane l g).store = s.store := rfl
@[simp] theorem State.modLane_time (s : State) (l : Nat) (g : Lane → Lane) : (s.modLane l g).time = s.time := rfl
@[simp] theorem State.modLane_hif (s : State) (l : Nat) (g : Lane → Lane) : (s.modLane l g).hif = s.hif := rfl
@[simp] theorem State.modLane_psq (s : State) (l : Nat) (g : Lane → Lane) : (s.modLane l g).psq = s.psq := rfl
@[simp] theorem State.modLane_rails (s : State) (l : Nat) (g : Lane → Lane) : (s.modLane l g).rails = s.rails := rfl
@[simp] theorem State.modLane_clk (s : State) (l : Nat) (g : Lane → Lane) : (s.modLane l g).clk = s.clk := rfl
@[simp] theorem State.modLane_rst (s : State) (l : Nat) (g : Lane → Lane) : (s.modLane l g).rst = s.rst := rfl
@[simp] theorem State.modLane_pins (s : State) (l : Nat) (g : Lane → Lane) : (s.modLane l g).pins = s.pins := rfl
@[simp] theorem State.modLane_mref (s : State) (l : Nat) (g : Lane → Lane) : (s.modLane l g).mref = s.mref := rfl
@[simp] theorem State.modLane_otp (s : State) (l : Nat) (g : Lane → Lane) : (s.modLane l g).otp = s.otp := rfl
@[simp] theorem State.modLane_shadow (s : State) (l : Nat) (g : Lane → Lane) : (s.modLane l g).shadow = s.shadow := rfl
@[simp] theorem State.modLane_link (s : State) (l : Nat) (g : Lane → Lane) : (s.modLane l g).link = s.link := rfl
@[simp] theorem State.modLane_outbox (s : State) (l : Nat) (g : Lane → Lane) : (s.modLane l g).outbox = s.outbox := rfl
@[simp] theorem State.modLane_recLatches (s : State) (l : Nat) (g : Lane → Lane) : (s.modLane l g).recLatches = s.recLatches := rfl
@[simp] theorem State.modLane_evr (s : State) (l : Nat) (g : Lane → Lane) : (s.modLane l g).evr = s.evr := rfl
@[simp] theorem State.modLane_cal (s : State) (l : Nat) (g : Lane → Lane) : (s.modLane l g).cal = s.cal := rfl
@[simp] theorem State.modLane_tlm (s : State) (l : Nat) (g : Lane → Lane) : (s.modLane l g).tlm = s.tlm := rfl
@[simp] theorem State.modLane_lf (s : State) (l : Nat) (g : Lane → Lane) : (s.modLane l g).lf = s.lf := rfl
@[simp] theorem State.modLane_estb (s : State) (l : Nat) (g : Lane → Lane) : (s.modLane l g).estb = s.estb := rfl
@[simp] theorem State.modLane_bus (s : State) (l : Nat) (g : Lane → Lane) : (s.modLane l g).bus = s.bus := rfl
@[simp] theorem State.modLane_efu (s : State) (l : Nat) (g : Lane → Lane) : (s.modLane l g).efu = s.efu := rfl
@[simp] theorem State.modLane_thm (s : State) (l : Nat) (g : Lane → Lane) : (s.modLane l g).thm = s.thm := rfl
@[simp] theorem State.modLane_core (s : State) (l : Nat) (g : Lane → Lane) : (s.modLane l g).core = s.core := rfl
@[simp] theorem State.modLane_wdg (s : State) (l : Nat) (g : Lane → Lane) : (s.modLane l g).wdg = s.wdg := rfl
@[simp] theorem State.modLane_dbg (s : State) (l : Nat) (g : Lane → Lane) : (s.modLane l g).dbg = s.dbg := rfl
@[simp] theorem State.modLane_otpc (s : State) (l : Nat) (g : Lane → Lane) : (s.modLane l g).otpc = s.otpc := rfl
@[simp] theorem State.modLane_pl (s : State) (l : Nat) (g : Lane → Lane) : (s.modLane l g).pl = s.pl := rfl
@[simp] theorem State.modLane_ports (s : State) (l : Nat) (g : Lane → Lane) : (s.modLane l g).ports = s.ports := rfl
@[simp] theorem State.modLane_rxq (s : State) (l : Nat) (g : Lane → Lane) : (s.modLane l g).rxq = s.rxq := rfl
@[simp] theorem State.modLane_ptm (s : State) (l : Nat) (g : Lane → Lane) : (s.modLane l g).ptm = s.ptm := rfl
@[simp] theorem State.modLane_rel (s : State) (l : Nat) (g : Lane → Lane) : (s.modLane l g).rel = s.rel := rfl
@[simp] theorem State.modLane_pending (s : State) (l : Nat) (g : Lane → Lane) : (s.modLane l g).pending = s.pending := rfl
@[simp] theorem State.modLane_free (s : State) (l : Nat) (g : Lane → Lane) : (s.modLane l g).free = s.free := rfl

@[simp] theorem State.setMemWord_regs (s : State) (a : Nat) (v : Word) : (s.setMemWord a v).regs = s.regs := rfl
@[simp] theorem State.setMemWord_stage (s : State) (a : Nat) (v : Word) : (s.setMemWord a v).stage = s.stage := rfl
@[simp] theorem State.setMemWord_arms (s : State) (a : Nat) (v : Word) : (s.setMemWord a v).arms = s.arms := rfl
@[simp] theorem State.setMemWord_latches (s : State) (a : Nat) (v : Word) : (s.setMemWord a v).latches = s.latches := rfl
@[simp] theorem State.setMemWord_store (s : State) (a : Nat) (v : Word) : (s.setMemWord a v).store = s.store := rfl
@[simp] theorem State.setMemWord_time (s : State) (a : Nat) (v : Word) : (s.setMemWord a v).time = s.time := rfl
@[simp] theorem State.setMemWord_hif (s : State) (a : Nat) (v : Word) : (s.setMemWord a v).hif = s.hif := rfl
@[simp] theorem State.setMemWord_psq (s : State) (a : Nat) (v : Word) : (s.setMemWord a v).psq = s.psq := rfl
@[simp] theorem State.setMemWord_rails (s : State) (a : Nat) (v : Word) : (s.setMemWord a v).rails = s.rails := rfl
@[simp] theorem State.setMemWord_clk (s : State) (a : Nat) (v : Word) : (s.setMemWord a v).clk = s.clk := rfl
@[simp] theorem State.setMemWord_rst (s : State) (a : Nat) (v : Word) : (s.setMemWord a v).rst = s.rst := rfl
@[simp] theorem State.setMemWord_pins (s : State) (a : Nat) (v : Word) : (s.setMemWord a v).pins = s.pins := rfl
@[simp] theorem State.setMemWord_mref (s : State) (a : Nat) (v : Word) : (s.setMemWord a v).mref = s.mref := rfl
@[simp] theorem State.setMemWord_lanes (s : State) (a : Nat) (v : Word) : (s.setMemWord a v).lanes = s.lanes := rfl
@[simp] theorem State.setMemWord_otp (s : State) (a : Nat) (v : Word) : (s.setMemWord a v).otp = s.otp := rfl
@[simp] theorem State.setMemWord_shadow (s : State) (a : Nat) (v : Word) : (s.setMemWord a v).shadow = s.shadow := rfl
@[simp] theorem State.setMemWord_link (s : State) (a : Nat) (v : Word) : (s.setMemWord a v).link = s.link := rfl
@[simp] theorem State.setMemWord_outbox (s : State) (a : Nat) (v : Word) : (s.setMemWord a v).outbox = s.outbox := rfl
@[simp] theorem State.setMemWord_recLatches (s : State) (a : Nat) (v : Word) : (s.setMemWord a v).recLatches = s.recLatches := rfl
@[simp] theorem State.setMemWord_evr (s : State) (a : Nat) (v : Word) : (s.setMemWord a v).evr = s.evr := rfl
@[simp] theorem State.setMemWord_cal (s : State) (a : Nat) (v : Word) : (s.setMemWord a v).cal = s.cal := rfl
@[simp] theorem State.setMemWord_tlm (s : State) (a : Nat) (v : Word) : (s.setMemWord a v).tlm = s.tlm := rfl
@[simp] theorem State.setMemWord_lf (s : State) (a : Nat) (v : Word) : (s.setMemWord a v).lf = s.lf := rfl
@[simp] theorem State.setMemWord_estb (s : State) (a : Nat) (v : Word) : (s.setMemWord a v).estb = s.estb := rfl
@[simp] theorem State.setMemWord_bus (s : State) (a : Nat) (v : Word) : (s.setMemWord a v).bus = s.bus := rfl
@[simp] theorem State.setMemWord_efu (s : State) (a : Nat) (v : Word) : (s.setMemWord a v).efu = s.efu := rfl
@[simp] theorem State.setMemWord_thm (s : State) (a : Nat) (v : Word) : (s.setMemWord a v).thm = s.thm := rfl
@[simp] theorem State.setMemWord_core (s : State) (a : Nat) (v : Word) : (s.setMemWord a v).core = s.core := rfl
@[simp] theorem State.setMemWord_wdg (s : State) (a : Nat) (v : Word) : (s.setMemWord a v).wdg = s.wdg := rfl
@[simp] theorem State.setMemWord_dbg (s : State) (a : Nat) (v : Word) : (s.setMemWord a v).dbg = s.dbg := rfl
@[simp] theorem State.setMemWord_otpc (s : State) (a : Nat) (v : Word) : (s.setMemWord a v).otpc = s.otpc := rfl
@[simp] theorem State.setMemWord_pl (s : State) (a : Nat) (v : Word) : (s.setMemWord a v).pl = s.pl := rfl
@[simp] theorem State.setMemWord_ports (s : State) (a : Nat) (v : Word) : (s.setMemWord a v).ports = s.ports := rfl
@[simp] theorem State.setMemWord_rxq (s : State) (a : Nat) (v : Word) : (s.setMemWord a v).rxq = s.rxq := rfl
@[simp] theorem State.setMemWord_ptm (s : State) (a : Nat) (v : Word) : (s.setMemWord a v).ptm = s.ptm := rfl
@[simp] theorem State.setMemWord_rel (s : State) (a : Nat) (v : Word) : (s.setMemWord a v).rel = s.rel := rfl
@[simp] theorem State.setMemWord_pending (s : State) (a : Nat) (v : Word) : (s.setMemWord a v).pending = s.pending := rfl
@[simp] theorem State.setMemWord_free (s : State) (a : Nat) (v : Word) : (s.setMemWord a v).free = s.free := rfl

/-! ### Registers -/

theorem State.rd_wr (s : State) (a b : Nat) (v : Word) : (s.wr a v).rd b = if b = a then v else s.rd b := sparseGet_set ..

@[simp] theorem State.rd_wr_self (s : State) (a : Nat) (v : Word) : (s.wr a v).rd a = v := by rw [State.rd_wr, if_pos rfl]

theorem State.rd_wr_ne (s : State) {a b : Nat} (v : Word) (h : b ≠ a) : (s.wr a v).rd b = s.rd b := by
  rw [State.rd_wr, if_neg h]

@[simp] theorem State.rd_setStaged (s : State) (a b : Nat) (x : Option Staged) : (s.setStaged a x).rd b = s.rd b := rfl
@[simp] theorem State.rd_setLane (s : State) (l b : Nat) (x : Lane) : (s.setLane l x).rd b = s.rd b := rfl
@[simp] theorem State.rd_modLane (s : State) (l b : Nat) (g : Lane → Lane) : (s.modLane l g).rd b = s.rd b := rfl
@[simp] theorem State.get_modLane (s : State) (l : Nat) (g : Lane → Lane) (x : Fld) : (s.modLane l g).get x = s.get x := rfl

theorem State.rd_put_ne (s : State) {x : Fld} {a : Nat} (v : Nat) (h : a ≠ x.addr) : (s.put x v).rd a = s.rd a :=
  State.rd_wr_ne s _ h

theorem bitsOf_lt (x lo w : Nat) : bitsOf x lo w < 2 ^ w := Nat.mod_lt _ (Nat.two_pow_pos w)

theorem testBit_bitsOf (x lo w i : Nat) : (bitsOf x lo w).testBit i = (decide (i < w) && x.testBit (lo + i)) := by
  unfold bitsOf
  rw [Nat.testBit_mod_two_pow, Nat.testBit_div_two_pow, Nat.add_comm]

theorem putBits_split (x lo w v : Nat) :
    putBits x lo w v = x % 2 ^ lo + (v % 2 ^ w) * 2 ^ lo + x / 2 ^ lo / 2 ^ w * (2 ^ w * 2 ^ lo) := by
  unfold putBits bitsOf
  have h1 := Nat.div_add_mod x (2 ^ lo)
  have h2 := Nat.div_add_mod (x / 2 ^ lo) (2 ^ w)
  have h3 : 2 ^ lo * (x / 2 ^ lo) = 2 ^ w * (x / 2 ^ lo / 2 ^ w) * 2 ^ lo + x / 2 ^ lo % 2 ^ w * 2 ^ lo := by
    rw [← Nat.add_mul, h2, Nat.mul_comm]
  have h4 : 2 ^ w * (x / 2 ^ lo / 2 ^ w) * 2 ^ lo = x / 2 ^ lo / 2 ^ w * (2 ^ w * 2 ^ lo) := by
    rw [Nat.mul_comm (2 ^ w), Nat.mul_assoc]
  omega

theorem testBit_putBits (x lo w v i : Nat) :
    (putBits x lo w v).testBit i = if lo ≤ i ∧ i < lo + w then v.testBit (i - lo) else x.testBit i := by
  have hlo := Nat.two_pow_pos lo
  have hw := Nat.two_pow_pos w
  have hA : x % 2 ^ lo < 2 ^ lo := Nat.mod_lt _ hlo
  have hB : v % 2 ^ w < 2 ^ w := Nat.mod_lt _ hw
  rw [putBits_split]
  have e1 : x % 2 ^ lo + (v % 2 ^ w) * 2 ^ lo + x / 2 ^ lo / 2 ^ w * (2 ^ w * 2 ^ lo)
      = 2 ^ lo * (2 ^ w * (x / 2 ^ lo / 2 ^ w) + v % 2 ^ w) + x % 2 ^ lo := by
    have e : x / 2 ^ lo / 2 ^ w * (2 ^ w * 2 ^ lo) = 2 ^ lo * (2 ^ w * (x / 2 ^ lo / 2 ^ w)) := by
      rw [Nat.mul_comm, Nat.mul_comm (2 ^ w) (2 ^ lo), Nat.mul_assoc]
    rw [Nat.mul_add, Nat.mul_comm (v % 2 ^ w), e]
    omega
  rw [e1, Nat.testBit_two_pow_mul_add _ hA]
  split
  · rw [if_neg (by omega), Nat.testBit_mod_two_pow]; simp [*]
  · rw [Nat.testBit_two_pow_mul_add _ hB]
    by_cases h : i - lo < w
    · rw [if_pos h, if_pos (by omega), Nat.testBit_mod_two_pow]; simp [h]
    · rw [if_neg h, if_neg (by omega), Nat.testBit_div_two_pow, Nat.testBit_div_two_pow]
      congr 1; omega

theorem putBits_lt {x lo w v : Nat} (hx : x < 2 ^ 32) (hf : lo + w ≤ 32) : putBits x lo w v < 2 ^ 32 := by
  refine Nat.lt_pow_two_of_testBit _ (fun i hi => ?_)
  rw [testBit_putBits, if_neg (by omega)]
  exact Nat.testBit_lt_two_pow (Nat.lt_of_lt_of_le hx (Nat.pow_le_pow_right (by omega) hi))

/-- What the register of a field holds after the field was set. -/
theorem State.rd_put_self (s : State) (x : Fld) (v : Nat) (hx : x.lo + x.w ≤ 32) :
    ((s.put x v).rd x.addr).toNat = putBits (s.rd x.addr).toNat x.lo x.w v := by
  unfold State.put
  rw [State.rd_wr_self, BitVec.toNat_ofNat]
  exact Nat.mod_eq_of_lt (putBits_lt (s.rd x.addr).isLt hx)

/-- A field reads back what was put into it. -/
theorem State.get_put_self (s : State) (x : Fld) (v : Nat) (hx : x.lo + x.w ≤ 32) : (s.put x v).get x = v % 2 ^ x.w := by
  unfold State.get
  rw [State.rd_put_self s x v hx]
  refine Nat.eq_of_testBit_eq (fun i => ?_)
  rw [testBit_bitsOf, testBit_putBits, Nat.testBit_mod_two_pow]
  by_cases h : i < x.w
  · rw [if_pos (by omega)]; simp [h]
  · simp [h]

/-- Another register, or bits beside the field, read as before. -/
theorem State.get_put_ne (s : State) (x y : Fld) (v : Nat) (hx : x.lo + x.w ≤ 32)
    (h : y.addr ≠ x.addr ∨ y.lo + y.w ≤ x.lo ∨ x.lo + x.w ≤ y.lo) : (s.put x v).get y = s.get y := by
  by_cases ha : y.addr = x.addr
  · unfold State.get
    rw [ha, State.rd_put_self s x v hx]
    refine Nat.eq_of_testBit_eq (fun i => ?_)
    rw [testBit_bitsOf, testBit_bitsOf, testBit_putBits]
    by_cases hi : i < y.w
    · rw [if_neg (by omega)]
    · simp [hi]
  · unfold State.get
    rw [State.rd_put_ne s v ha]

theorem State.flag_putB_self (s : State) (x : Fld) (b : Bool) (hx : x.lo + x.w ≤ 32) (hw : x.w = 1) : (s.putB x b).flag x = b := by
  unfold State.flag State.putB
  rw [State.get_put_self s x _ hx, hw]
  cases b <;> rfl

theorem State.get_lt (s : State) (x : Fld) : s.get x < 2 ^ x.w := bitsOf_lt ..

/-! ### Lanes -/

theorem State.lane_setLane (s : State) (l n : Nat) (x : Lane) :
    (s.setLane l x).lane n = if n = l ∧ l < 64 then x else s.lane n := by
  unfold State.lane State.setLane
  simp only [List.getD_eq_getElem?_getD, Vector.getElem?_toList, Vector.getElem?_setIfInBounds]
  by_cases h : l = n
  · subst h
    by_cases hl : l < 64
    · simp [hl]
    · simp [hl]
  · rw [if_neg h, if_neg (by omega)]

theorem State.lane_modLane (s : State) (l n : Nat) (g : Lane → Lane) :
    (s.modLane l g).lane n = if n = l ∧ l < 64 then g (s.lane l) else s.lane n := State.lane_setLane ..

@[simp] theorem State.lane_wr (s : State) (a : Nat) (v : Word) (n : Nat) : (s.wr a v).lane n = s.lane n := rfl
@[simp] theorem State.lane_put (s : State) (x : Fld) (v : Nat) (n : Nat) : (s.put x v).lane n = s.lane n := rfl
@[simp] theorem State.lane_putB (s : State) (x : Fld) (b : Bool) (n : Nat) : (s.putB x b).lane n = s.lane n := rfl

end Sys2Proof.Machine
end

