-- ==== Sys2Proof/Laws/Events.lean ====
section
/-!
SUPPORT. Sys2Proof/Laws/Events.lean: what setting and clearing events does to PEVT, and all that it leaves (R104 to R106).
-/

namespace Sys2Proof.Machine

/-! ### Events -/

/-- Sending a packet touches the packets that wait to leave, and nothing else. -/
theorem State.send_frame (s : State) (p : Packet) : ∃ o, s.send p = { s with outbox := o } := by
  unfold State.send
  dsimp only
  split
  · split <;> exact ⟨_, rfl⟩
  · split <;> exact ⟨_, rfl⟩

theorem State.foldl_outbox {α : Type} (g : State → α → State) (h : ∀ t x, ∃ o, g t x = { t with outbox := o })
    (xs : List α) (s : State) : ∃ o, xs.foldl g s = { s with outbox := o } := by
  induction xs generalizing s with
  | nil => exact ⟨_, rfl⟩
  | cons x xs ih =>
    obtain ⟨o, ho⟩ := h s x
    obtain ⟨o', h'⟩ := ih (g s x)
    refine ⟨o', ?_⟩
    rw [List.foldl_cons, h', ho]

theorem State.sendEvents_frame (s : State) (p n : Nat) : ∃ o, s.sendEvents p n = { s with outbox := o } := by
  unfold State.sendEvents
  split
  · exact ⟨_, rfl⟩
  · exact State.foldl_outbox _ (fun t i => t.send_frame _) _ _

/-- Only registers, the recorder's capture latches and the packets that wait to leave changed. -/
def EventsOnly (s t : State) : Prop := ∃ r l o, t = { s with regs := r, recLatches := l, outbox := o }

theorem EventsOnly.refl (s : State) : EventsOnly s s := ⟨_, _, _, rfl⟩

theorem EventsOnly.trans {s t u : State} (h : EventsOnly s t) (g : EventsOnly t u) : EventsOnly s u := by
  obtain ⟨_, _, _, rfl⟩ := h
  obtain ⟨_, _, _, rfl⟩ := g
  exact ⟨_, _, _, rfl⟩

theorem EventsOnly.eq {s t : State} (h : EventsOnly s t) : t = { s with regs := t.regs, recLatches := t.recLatches, outbox := t.outbox } := by
  obtain ⟨_, _, _, rfl⟩ := h; rfl

theorem State.wr_eventsOnly (s : State) (a : Nat) (v : Word) : EventsOnly s (s.wr a v) := ⟨_, _, _, rfl⟩

theorem State.sendEvents_eventsOnly (s : State) (p n : Nat) : EventsOnly s (s.sendEvents p n) := by
  obtain ⟨o, h⟩ := s.sendEvents_frame p n
  exact ⟨_, _, o, h⟩

theorem State.latchEvents_eventsOnly (s : State) (p n : Nat) : EventsOnly s (s.latchEvents p n) := by
  unfold State.latchEvents
  dsimp only
  split <;> exact ⟨_, _, _, rfl⟩

theorem latchEvents_regs (s : State) (p n : Nat) : (s.latchEvents p n).regs = s.regs := by
  unfold State.latchEvents
  dsimp only
  split <;> rfl

theorem sendEvents_regs (s : State) (p n : Nat) : (s.sendEvents p n).regs = s.regs := by
  obtain ⟨o, h⟩ := s.sendEvents_frame p n
  rw [h]

/-- What follows newly set bits beside PEVT and PFIRST leaves the registers. -/
theorem State.rd_follow (s : State) (p n a : Nat) : ((s.latchEvents p n).sendEvents p n).rd a = s.rd a := by
  unfold State.rd
  rw [sendEvents_regs, latchEvents_regs]

theorem State.follow_eventsOnly (s : State) (p n : Nat) : EventsOnly s ((s.latchEvents p n).sendEvents p n) :=
  (s.latchEvents_eventsOnly p n).trans (State.sendEvents_eventsOnly _ p n)

/-- `SYS.PEVT.PAGES` following the other pages changes SYS.PFIRST, the capture latches and the packets that wait to leave. -/
theorem State.pagesEdge_frame (s : State) (was : Bool) :
    (∀ a, a ≠ 0x18 → (s.pagesEdge was).rd a = s.rd a) ∧ EventsOnly s (s.pagesEdge was) := by
  unfold State.pagesEdge
  split
  · exact ⟨fun _ _ => rfl, .refl s⟩
  · split
    · split
      · exact ⟨fun a ha => State.rd_wr_ne _ _ ha, s.wr_eventsOnly _ _⟩
      · exact ⟨fun _ _ => rfl, .refl s⟩
    · refine ⟨fun a ha => ?_, ?_⟩
      · rw [State.rd_follow]
        split
        · exact State.rd_wr_ne _ _ ha
        · rfl
      · refine EventsOnly.trans ?_ (State.follow_eventsOnly _ _ _)
        split
        · exact s.wr_eventsOnly _ _
        · exact .refl s

/-- Setting events changes PEVT and PFIRST of their page, PFIRST of SYS, the recorder's capture latches and the packets that wait to
leave. -/
theorem State.raise_frame (s : State) (p m : Nat) :
    (∀ a, a ≠ p * 256 + 0x10 → a ≠ p * 256 + 0x18 → a ≠ 0x18 → (s.raise p m).rd a = s.rd a) ∧ EventsOnly s (s.raise p m) := by
  unfold State.raise
  dsimp only
  split
  · exact ⟨fun _ _ _ _ => rfl, .refl s⟩
  · refine ⟨fun a h1 h2 h3 => ?_, ?_⟩
    · rw [(State.pagesEdge_frame _ _).1 a h3, State.rd_follow]
      split
      · exact (State.rd_wr_ne _ _ h2).trans (State.rd_wr_ne _ _ h1)
      · exact State.rd_wr_ne _ _ h1
    · refine EventsOnly.trans (EventsOnly.trans ?_ (State.follow_eventsOnly _ _ _)) (State.pagesEdge_frame _ _).2
      split
      · exact (s.wr_eventsOnly _ _).trans (State.wr_eventsOnly _ _ _)
      · exact s.wr_eventsOnly _ _

theorem State.raise_eq (s : State) (p m : Nat) :
    s.raise p m = { s with regs := (s.raise p m).regs, recLatches := (s.raise p m).recLatches, outbox := (s.raise p m).outbox } :=
  (s.raise_frame p m).2.eq

/-- Any other register reads as before events were set. -/
theorem State.rd_raise_ne (s : State) {p m a : Nat} (h1 : a ≠ p * 256 + 0x10) (h2 : a ≠ p * 256 + 0x18) (h3 : a ≠ 0x18) :
    (s.raise p m).rd a = s.rd a := (s.raise_frame p m).1 a h1 h2 h3

theorem State.rd_ev_ne (s : State) {p i a : Nat} (h1 : a ≠ p * 256 + 0x10) (h2 : a ≠ p * 256 + 0x18) (h3 : a ≠ 0x18) :
    (s.ev p i).rd a = s.rd a := s.rd_raise_ne h1 h2 h3

theorem State.get_ev_ne (s : State) {p i : Nat} {x : Fld} (h1 : x.addr ≠ p * 256 + 0x10) (h2 : x.addr ≠ p * 256 + 0x18)
    (h3 : x.addr ≠ 0x18) : (s.ev p i).get x = s.get x := by unfold State.get; rw [s.rd_ev_ne h1 h2 h3]

@[simp] theorem State.raise_stage (s : State) (p m : Nat) : (s.raise p m).stage = s.stage := by rw [s.raise_eq]
@[simp] theorem State.raise_arms (s : State) (p m : Nat) : (s.raise p m).arms = s.arms := by rw [s.raise_eq]
@[simp] theorem State.raise_latches (s : State) (p m : Nat) : (s.raise p m).latches = s.latches := by rw [s.raise_eq]
@[simp] theorem State.raise_mem (s : State) (p m : Nat) : (s.raise p m).mem = s.mem := by rw [s.raise_eq]
@[simp] theorem State.raise_store (s : State) (p m : Nat) : (s.raise p m).store = s.store := by rw [s.raise_eq]
@[simp] theorem State.raise_time (s : State) (p m : Nat) : (s.raise p m).time = s.time := by rw [s.raise_eq]
@[simp] theorem State.raise_hif (s : State) (p m : Nat) : (s.raise p m).hif = s.hif := by rw [s.raise_eq]
@[simp] theorem State.raise_psq (s : State) (p m : Nat) : (s.raise p m).psq = s.psq := by rw [s.raise_eq]
@[simp] theorem State.raise_rails (s : State) (p m : Nat) : (s.raise p m).rails = s.rails := by rw [s.raise_eq]
@[simp] theorem State.raise_clk (s : State) (p m : Nat) : (s.raise p m).clk = s.clk := by rw [s.raise_eq]
@[simp] theorem State.raise_rst (s : State) (p m : Nat) : (s.raise p m).rst = s.rst := by rw [s.raise_eq]
@[simp] theorem State.raise_pins (s : State) (p m : Nat) : (s.raise p m).pins = s.pins := by rw [s.raise_eq]
@[simp] theorem State.raise_mref (s : State) (p m : Nat) : (s.raise p m).mref = s.mref := by rw [s.raise_eq]
@[simp] theorem State.raise_lanes (s : State) (p m : Nat) : (s.raise p m).lanes = s.lanes := by rw [s.raise_eq]
@[simp] theorem State.raise_otp (s : State) (p m : Nat) : (s.raise p m).otp = s.otp := by rw [s.raise_eq]
@[simp] theorem State.raise_shadow (s : State) (p m : Nat) : (s.raise p m).shadow = s.shadow := by rw [s.raise_eq]
@[simp] theorem State.raise_link (s : State) (p m : Nat) : (s.raise p m).link = s.link := by rw [s.raise_eq]
@[simp] theorem State.raise_evr (s : State) (p m : Nat) : (s.raise p m).evr = s.evr := by rw [s.raise_eq]
@[simp] theorem State.raise_cal (s : State) (p m : Nat) : (s.raise p m).cal = s.cal := by rw [s.raise_eq]
@[simp] theorem State.raise_tlm (s : State) (p m : Nat) : (s.raise p m).tlm = s.tlm := by rw [s.raise_eq]
@[simp] theorem State.raise_lf (s : State) (p m : Nat) : (s.raise p m).lf = s.lf := by rw [s.raise_eq]
@[simp] theorem State.raise_estb (s : State) (p m : Nat) : (s.raise p m).estb = s.estb := by rw [s.raise_eq]
@[simp] theorem State.raise_bus (s : State) (p m : Nat) : (s.raise p m).bus = s.bus := by rw [s.raise_eq]
@[simp] theorem State.raise_efu (s : State) (p m : Nat) : (s.raise p m).efu = s.efu := by rw [s.raise_eq]
@[simp] theorem State.raise_thm (s : State) (p m : Nat) : (s.raise p m).thm = s.thm := by rw [s.raise_eq]
@[simp] theorem State.raise_core (s : State) (p m : Nat) : (s.raise p m).core = s.core := by rw [s.raise_eq]
@[simp] theorem State.raise_wdg (s : State) (p m : Nat) : (s.raise p m).wdg = s.wdg := by rw [s.raise_eq]
@[simp] theorem State.raise_dbg (s : State) (p m : Nat) : (s.raise p m).dbg = s.dbg := by rw [s.raise_eq]
@[simp] theorem State.raise_otpc (s : State) (p m : Nat) : (s.raise p m).otpc = s.otpc := by rw [s.raise_eq]
@[simp] theorem State.raise_pl (s : State) (p m : Nat) : (s.raise p m).pl = s.pl := by rw [s.raise_eq]
@[simp] theorem State.raise_ports (s : State) (p m : Nat) : (s.raise p m).ports = s.ports := by rw [s.raise_eq]
@[simp] theorem State.raise_rxq (s : State) (p m : Nat) : (s.raise p m).rxq = s.rxq := by rw [s.raise_eq]
@[simp] theorem State.raise_ptm (s : State) (p m : Nat) : (s.raise p m).ptm = s.ptm := by rw [s.raise_eq]
@[simp] theorem State.raise_rel (s : State) (p m : Nat) : (s.raise p m).rel = s.rel := by rw [s.raise_eq]
@[simp] theorem State.raise_pending (s : State) (p m : Nat) : (s.raise p m).pending = s.pending := by rw [s.raise_eq]
@[simp] theorem State.raise_free (s : State) (p m : Nat) : (s.raise p m).free = s.free := by rw [s.raise_eq]

@[simp] theorem State.ev_stage (s : State) (p i : Nat) : (s.ev p i).stage = s.stage := s.raise_stage p (2 ^ i)
@[simp] theorem State.ev_arms (s : State) (p i : Nat) : (s.ev p i).arms = s.arms := s.raise_arms p (2 ^ i)
@[simp] theorem State.ev_latches (s : State) (p i : Nat) : (s.ev p i).latches = s.latches := s.raise_latches p (2 ^ i)
@[simp] theorem State.ev_mem (s : State) (p i : Nat) : (s.ev p i).mem = s.mem := s.raise_mem p (2 ^ i)
@[simp] theorem State.ev_store (s : State) (p i : Nat) : (s.ev p i).store = s.store := s.raise_store p (2 ^ i)
@[simp] theorem State.ev_time (s : State) (p i : Nat) : (s.ev p i).time = s.time := s.raise_time p (2 ^ i)
@[simp] theorem State.ev_hif (s : State) (p i : Nat) : (s.ev p i).hif = s.hif := s.raise_hif p (2 ^ i)
@[simp] theorem State.ev_psq (s : State) (p i : Nat) : (s.ev p i).psq = s.psq := s.raise_psq p (2 ^ i)
@[simp] theorem State.ev_rails (s : State) (p i : Nat) : (s.ev p i).rails = s.rails := s.raise_rails p (2 ^ i)
@[simp] theorem State.ev_clk (s : State) (p i : Nat) : (s.ev p i).clk = s.clk := s.raise_clk p (2 ^ i)
@[simp] theorem State.ev_rst (s : State) (p i : Nat) : (s.ev p i).rst = s.rst := s.raise_rst p (2 ^ i)
@[simp] theorem State.ev_pins (s : State) (p i : Nat) : (s.ev p i).pins = s.pins := s.raise_pins p (2 ^ i)
@[simp] theorem State.ev_mref (s : State) (p i : Nat) : (s.ev p i).mref = s.mref := s.raise_mref p (2 ^ i)
@[simp] theorem State.ev_lanes (s : State) (p i : Nat) : (s.ev p i).lanes = s.lanes := s.raise_lanes p (2 ^ i)
@[simp] theorem State.ev_otp (s : State) (p i : Nat) : (s.ev p i).otp = s.otp := s.raise_otp p (2 ^ i)
@[simp] theorem State.ev_shadow (s : State) (p i : Nat) : (s.ev p i).shadow = s.shadow := s.raise_shadow p (2 ^ i)
@[simp] theorem State.ev_link (s : State) (p i : Nat) : (s.ev p i).link = s.link := s.raise_link p (2 ^ i)
@[simp] theorem State.ev_evr (s : State) (p i : Nat) : (s.ev p i).evr = s.evr := s.raise_evr p (2 ^ i)
@[simp] theorem State.ev_cal (s : State) (p i : Nat) : (s.ev p i).cal = s.cal := s.raise_cal p (2 ^ i)
@[simp] theorem State.ev_tlm (s : State) (p i : Nat) : (s.ev p i).tlm = s.tlm := s.raise_tlm p (2 ^ i)
@[simp] theorem State.ev_lf (s : State) (p i : Nat) : (s.ev p i).lf = s.lf := s.raise_lf p (2 ^ i)
@[simp] theorem State.ev_estb (s : State) (p i : Nat) : (s.ev p i).estb = s.estb := s.raise_estb p (2 ^ i)
@[simp] theorem State.ev_bus (s : State) (p i : Nat) : (s.ev p i).bus = s.bus := s.raise_bus p (2 ^ i)
@[simp] theorem State.ev_efu (s : State) (p i : Nat) : (s.ev p i).efu = s.efu := s.raise_efu p (2 ^ i)
@[simp] theorem State.ev_thm (s : State) (p i : Nat) : (s.ev p i).thm = s.thm := s.raise_thm p (2 ^ i)
@[simp] theorem State.ev_core (s : State) (p i : Nat) : (s.ev p i).core = s.core := s.raise_core p (2 ^ i)
@[simp] theorem State.ev_wdg (s : State) (p i : Nat) : (s.ev p i).wdg = s.wdg := s.raise_wdg p (2 ^ i)
@[simp] theorem State.ev_dbg (s : State) (p i : Nat) : (s.ev p i).dbg = s.dbg := s.raise_dbg p (2 ^ i)
@[simp] theorem State.ev_otpc (s : State) (p i : Nat) : (s.ev p i).otpc = s.otpc := s.raise_otpc p (2 ^ i)
@[simp] theorem State.ev_pl (s : State) (p i : Nat) : (s.ev p i).pl = s.pl := s.raise_pl p (2 ^ i)
@[simp] theorem State.ev_ports (s : State) (p i : Nat) : (s.ev p i).ports = s.ports := s.raise_ports p (2 ^ i)
@[simp] theorem State.ev_rxq (s : State) (p i : Nat) : (s.ev p i).rxq = s.rxq := s.raise_rxq p (2 ^ i)
@[simp] theorem State.ev_ptm (s : State) (p i : Nat) : (s.ev p i).ptm = s.ptm := s.raise_ptm p (2 ^ i)
@[simp] theorem State.ev_rel (s : State) (p i : Nat) : (s.ev p i).rel = s.rel := s.raise_rel p (2 ^ i)
@[simp] theorem State.ev_pending (s : State) (p i : Nat) : (s.ev p i).pending = s.pending := s.raise_pending p (2 ^ i)
@[simp] theorem State.ev_free (s : State) (p i : Nat) : (s.ev p i).free = s.free := s.raise_free p (2 ^ i)

@[simp] theorem State.lane_ev (s : State) (p i n : Nat) : (s.ev p i).lane n = s.lane n := by
  unfold State.lane; rw [State.ev_lanes]

/-- A number put together bit by bit. -/
theorem foldBits (n : Nat) (q : Nat → Bool) : ∀ j, ((List.range n).foldl (fun x i => if q i then x + 2 ^ i else x) 0).testBit j
      = (decide (j < n) && q j) ∧ (List.range n).foldl (fun x i => if q i then x + 2 ^ i else x) 0 < 2 ^ n := by
  induction n with
  | zero => intro j; simp
  | succ n ih =>
    intro j
    rw [List.range_succ, List.foldl_append]
    obtain ⟨h1, h2⟩ := ih j
    generalize (List.range n).foldl _ 0 = x at h1 h2 ⊢
    simp only [List.foldl_cons, List.foldl_nil]
    split
    · rename_i hc
      refine ⟨?_, by rw [Nat.pow_succ]; omega⟩
      have e : x + 2 ^ n = 2 ^ n * 1 ||| x := by rw [← Nat.two_pow_add_eq_or_of_lt h2]; omega
      rw [e, Nat.mul_one, Nat.testBit_or, Nat.testBit_two_pow, h1]
      by_cases hj : j = n
      · subst hj; simpa using hc
      · have : decide (j < n) = decide (j < n + 1) := by rw [decide_eq_decide]; omega
        rw [this]; simp [Ne.symm hj]
    · rename_i hc
      refine ⟨?_, by rw [Nat.pow_succ]; omega⟩
      rw [h1]
      by_cases hj : j = n
      · subst hj; simpa using hc
      · have : decide (j < n) = decide (j < n + 1) := by rw [decide_eq_decide]; omega
        rw [this]

theorem bitsWhere_testBit (q : Nat → Bool) (i : Nat) : (bitsWhere q).testBit i = (decide (i < 16) && q i) := (foldBits 16 q i).1

theorem bitsWhere_lt (q : Nat → Bool) : bitsWhere q < 2 ^ 32 := Nat.lt_trans (foldBits 16 q 0).2 (by decide)

/-- What PEVT of a page reads after a change of it, its PFIRST and all that follows. -/
theorem State.pevt_of_rd (s t : State) (p n : Nat) (was : Bool) (h : t.rd (p * 256 + 0x10) = s.rd (p * 256 + 0x10)) :
    (((t.latchEvents p n).sendEvents p n).pagesEdge was).pevt p = s.pevt p := by
  unfold State.pevt
  rw [(State.pagesEdge_frame _ _).1 _ (by omega), State.rd_follow, h]

/-- PEVT after events were set: the bits that were set, and those of the mask (R104). -/
theorem State.pevt_raise (s : State) (p m i : Nat) :
    ((s.raise p m).pevt p).testBit i = ((s.pevt p).testBit i || (decide (i < 16) && m.testBit i)) := by
  have hn := bitsWhere_testBit (fun i => m.testBit i && !(s.pevt p).testBit i) i
  have hl := bitsWhere_lt (fun i => m.testBit i && !(s.pevt p).testBit i)
  unfold State.raise
  dsimp only
  have hd : ∀ j, (bitsWhere (fun i => m.testBit i && !(s.pevt p).testBit i)).testBit j = true → (s.pevt p).testBit j = false := by
    intro j hj
    rw [bitsWhere_testBit] at hj
    simp only [Bool.and_eq_true, Bool.not_eq_true'] at hj
    exact hj.2.2
  generalize bitsWhere (fun i => m.testBit i && !(s.pevt p).testBit i) = b at hn hl hd ⊢
  split
  · rename_i h0
    rw [h0, Nat.zero_testBit] at hn
    revert hn
    cases (s.pevt p).testBit i <;> cases m.testBit i <;> simp
  · have key : (s.wr (p * 256 + 0x10) (BitVec.ofNat 32 (s.pevt p + b))).pevt p = (s.pevt p ||| b) := by
      unfold State.pevt at hd ⊢
      rw [State.rd_wr_self, BitVec.ofNat_add, BitVec.ofNat_toNat, BitVec.setWidth_eq, BitVec.add_eq_or_of_and_eq_zero, BitVec.toNat_or,
        BitVec.toNat_ofNat, Nat.mod_eq_of_lt hl]
      refine BitVec.eq_of_getLsbD_eq (fun j _ => ?_)
      rw [BitVec.getLsbD_and, BitVec.getLsbD_ofNat, BitVec.getLsbD_zero]
      cases hb : b.testBit j
      · simp
      · have h := hd j hb
        unfold BitVec.getLsbD
        rw [h]; simp
    rw [State.pevt_of_rd (s.wr (p * 256 + 0x10) (BitVec.ofNat 32 (s.pevt p + b))), key, Nat.testBit_or, hn]
    · cases (s.pevt p).testBit i <;> simp
    · split
      · exact State.rd_wr_ne _ _ (by omega)
      · rfl

/-- An event bit reads 1 once it was set. -/
theorem State.pevt_ev (s : State) (p i : Nat) (hi : i < 16) : ((s.ev p i).pevt p).testBit i = true := by
  unfold State.ev
  rw [State.pevt_raise, Nat.testBit_two_pow]
  simp [hi]

/-- Clearing events changes PEVT and PFIRST of their page, PFIRST of SYS, the recorder's capture latches and the packets that wait to
leave. -/
theorem State.clearEvents_frame (s : State) (p c h : Nat) :
    (∀ a, a ≠ p * 256 + 0x10 → a ≠ p * 256 + 0x18 → a ≠ 0x18 → (s.clearEvents p c h).rd a = s.rd a) ∧
      EventsOnly s (s.clearEvents p c h) := by
  unfold State.clearEvents
  dsimp only
  refine ⟨fun a h1 h2 h3 => ?_, ?_⟩
  · rw [(State.pagesEdge_frame _ _).1 a h3, State.rd_follow]
    split
    · exact (State.rd_wr_ne _ _ h2).trans (State.rd_wr_ne _ _ h1)
    · split
      · exact (State.rd_wr_ne _ _ h2).trans (State.rd_wr_ne _ _ h1)
      · exact State.rd_wr_ne _ _ h1
  · refine EventsOnly.trans (EventsOnly.trans ?_ (State.follow_eventsOnly _ _ _)) (State.pagesEdge_frame _ _).2
    split
    · exact (s.wr_eventsOnly _ _).trans (State.wr_eventsOnly _ _ _)
    · split
      · exact (s.wr_eventsOnly _ _).trans (State.wr_eventsOnly _ _ _)
      · exact s.wr_eventsOnly _ _

/-- PEVT after a write of `c` while hardware sets `h`: set wins (R104). -/
theorem State.pevt_clearEvents (s : State) (p c h i : Nat) (hi : i < 16) :
    ((s.clearEvents p c h).pevt p).testBit i = (((s.pevt p).testBit i && !c.testBit i) || h.testBit i) := by
  have hf := bitsWhere_testBit (fun i => ((s.pevt p).testBit i && !c.testBit i) || h.testBit i) i
  have hl := bitsWhere_lt (fun i => ((s.pevt p).testBit i && !c.testBit i) || h.testBit i)
  unfold State.clearEvents
  dsimp only
  generalize bitsWhere (fun i => ((s.pevt p).testBit i && !c.testBit i) || h.testBit i) = b at hf hl ⊢
  rw [State.pevt_of_rd (s.wr (p * 256 + 0x10) (BitVec.ofNat 32 b))]
  · unfold State.pevt
    rw [State.rd_wr_self, BitVec.toNat_ofNat, Nat.mod_eq_of_lt hl]
    rw [hf]
    simp [hi, State.pevt]
  · split
    · exact State.rd_wr_ne _ _ (by omega)
    · split
      · exact State.rd_wr_ne _ _ (by omega)
      · rfl

end Sys2Proof.Machine
end

