-- ==== Sys2Proof/Laws/Writes.lean ====
section
/-!
SUPPORT. Sys2Proof/Laws/Writes.lean: what a write of a register of a present page comes to (R107, R108).
-/

namespace Sys2Proof.Machine

/-- `PSEQ.COUNT` of a page advances (R107). -/
def State.pseq (s : State) (p : Nat) : State := s.countMod ⟨p * 256 + 0x1C, 0, 16⟩ 1

theorem State.rd_pseq (s : State) (p : Nat) {a : Nat} (h : a ≠ p * 256 + 0x1C) : (s.pseq p).rd a = s.rd a := State.rd_put_ne s _ h

theorem State.get_pseq (s : State) (p : Nat) {x : Fld} (h : x.addr ≠ p * 256 + 0x1C) : (s.pseq p).get x = s.get x := by
  unfold State.get; rw [s.rd_pseq p h]

theorem State.flag_pseq (s : State) (p : Nat) {x : Fld} (h : x.addr ≠ p * 256 + 0x1C) : (s.pseq p).flag x = s.flag x := by
  unfold State.flag; rw [s.get_pseq p h]

theorem State.seq_pseq (s : State) (p : Nat) :
    (s.pseq p).get ⟨p * 256 + 0x1C, 0, 16⟩ = (s.get ⟨p * 256 + 0x1C, 0, 16⟩ + 1) % 65536 :=
  State.get_put_self _ _ _ (by show 0 + 16 ≤ 32; decide)

/-- A host port with nothing queued has nothing to catch up. -/
theorem State.catchUp_nil (s : State) (u : Nat) (h : s.hif.queue = []) : s.catchUp u = s := by
  obtain ⟨_, hq⟩ : ∃ q, s.hif = { s.hif with queue := q } ∧ q = [] := ⟨_, rfl, h⟩
  unfold State.catchUp State.modHif
  rw [h]
  show ({ s with hif := { s.hif with queue := [] } } : State) = s
  rw [← h]

/-- A ready initiator's access finds the registers as they stand. -/
theorem State.ordered_ready {s : State} {i : Init} (a : Nat) (h : s.Ready i) : s.ordered i a = s := by
  unfold State.ordered State.inOrder
  rw [if_pos h.1]
  split
  · exact s.catchUp_nil _ (h.2 ‹_›)
  · rfl

theorem State.writeRow_ready {s : State} {i : Init} (a : Nat) (v : Word) (h : s.Ready i) : s.writeRow i a v = s.writeNow i a v := by
  unfold State.writeRow; rw [State.ordered_ready a h]

/-- A write of a register below the LANE pages whose row takes writes: the count advances, then the register's own effect. -/
theorem State.writeNow_block (s : State) (i : Init) (a : Nat) (v : Word) (hr : s.running = true) (ha : a < 0x1900)
    (hp : a / 256 ≠ 0x0E) (h8 : a % 256 ≠ 8) (h10 : a % 256 ≠ 0x10) (hw : (rowOf a).writes = true) (hl : plinthReg a = false)
    (hc : ¬(0x860 ≤ a ∧ a ≤ 0x89C)) :
    s.writeNow i a v = match (s.pseq (a / 256)).writeEffect i a v with
      | some t => t
      | none => (s.pseq (a / 256)).takeWrite a v := by
  have hreg : regionOf a = .pages := by unfold regionOf; rw [if_pos (by omega)]
  have hwr : writable a = true := by
    unfold writable
    rw [hreg]
    show hasBlock (a / 256) = true
    unfold hasBlock
    simp only [Bool.or_eq_true, decide_eq_true_eq]
    left; omega
  have hpr : s.present (a / 256) = true := by
    unfold State.present
    rw [if_neg hp]
    simp only [Bool.or_eq_true, decide_eq_true_eq]
    left; omega
  have hh : s.hidden a = false := by
    unfold State.hidden
    simp only [Bool.and_eq_false_imp, decide_eq_true_eq]
    omega
  have hn : s.notApplied i a = false := by
    unfold State.notApplied
    rw [hpr, hh, hw]
    simp only [Bool.not_true, Bool.false_or, Bool.and_eq_false_imp, Bool.and_eq_true, decide_eq_true_eq]
    intro h; exact absurd h hc
  unfold State.writeNow State.writeWord
  rw [if_pos hr, hwr, hreg]
  show s.writeReg i a v = _
  unfold State.writeReg
  dsimp only
  rw [hn, hl]
  change (if a % 256 = 0x10 then _ else _ : State) = _
  rw [if_neg h10, if_neg h8]
  change (match (s.pseq (a / 256)).writeEffect i a v with | some t => t | none => _) = _
  split
  · rfl
  · rw [if_neg (by omega), if_neg (by omega)]; rfl

theorem State.writeRow_block (s : State) (i : Init) (a : Nat) (v : Word) (hr : s.Ready i) (ha : a < 0x1900)
    (hp : a / 256 ≠ 0x0E) (h8 : a % 256 ≠ 8) (h10 : a % 256 ≠ 0x10) (hw : (rowOf a).writes = true) (hl : plinthReg a = false)
    (hc : ¬(0x860 ≤ a ∧ a ≤ 0x89C)) :
    s.writeRow i a v = match (s.pseq (a / 256)).writeEffect i a v with
      | some t => t
      | none => (s.pseq (a / 256)).takeWrite a v :=
  (State.writeRow_ready a v hr).trans (s.writeNow_block i a v hr.1 ha hp h8 h10 hw hl hc)

end Sys2Proof.Machine
end

