-- ==== Sys2Proof/Laws/Rows.lean ====
section
/-!
SUPPORT. Sys2Proof/Laws/Rows.lean: the rows that are one register access, each as its register's own effect after `PSEQ` has
counted the write.
-/

namespace Sys2Proof.Machine

theorem exec_fence_u (s : State) (x : Fin 4) (d : Word) (hr : s.Ready (.u x)) :
    exec (.fence (.u x) d) s = .next (let u := s.pseq 0x0; u.takeWrite 0x034 d) := by
  refine congrArg Host.Outcome.next ((State.writeRow_block s (.u x) 0x034 d hr (by decide) (by decide) (by decide) (by decide) rfl rfl
    (by decide)).trans ?_)
  rfl

theorem exec_fence_c (s : State) (d : Word) (hr : s.Ready .core) :
    exec (.fence .core d) s = .next (let u := s.pseq 0x0; u.takeWrite 0x034 d) := by
  refine congrArg Host.Outcome.next ((State.writeRow_block s .core 0x034 d hr (by decide) (by decide) (by decide) (by decide) rfl rfl
    (by decide)).trans ?_)
  rfl

/-- A fence of a host port with nothing queued has nothing to drain (R113). -/
theorem exec_fence (s : State) (i : Init) (d : Word) (hr : s.Ready i) :
    exec (.fence i d) s = .next (let u := s.pseq 0x0; u.takeWrite 0x034 d) := by
  match i, hr with
  | .u x, hr => exact exec_fence_u s x d hr
  | .core, hr => exact exec_fence_c s d hr
  | .host, hr =>
    have hd : s.hostDrain = s := by unfold State.hostDrain; rw [hr.2 rfl]; rfl
    refine congrArg Host.Outcome.next (?_ : s.fenceRow .host d = _)
    unfold State.fenceRow
    rw [if_pos rfl, if_pos hr.1, hd]
    exact (State.writeRow_block s .host 0x034 d hr (by decide) (by decide) (by decide) (by decide) rfl rfl (by decide)).trans rfl

theorem exec_commit (s : State) (i : Init) (d : Word) (hr : s.Ready i) :
    exec (.commit i d) s = .next (let u := s.pseq 0x0; u.commitArm d.toNat) := by
  refine congrArg Host.Outcome.next ((State.writeRow_block s i 0x040 d hr (by decide) (by decide) (by decide) (by decide) rfl rfl
    (by decide)).trans ?_)
  rfl

theorem exec_hifCntclr (s : State) (i : Init) (d : Word) (hr : s.Ready i) :
    exec (.hifCntclr i d) s = .next (let u := s.pseq 0x10; if bit (d ||| 1).toNat 0 then u.wr 0x1028 0 else u) := by
  refine congrArg Host.Outcome.next ((State.writeRow_block s i 0x102C (d ||| 1) hr (by decide) (by decide) (by decide) (by decide) rfl rfl
    (by decide)).trans ?_)
  rfl

theorem exec_psqOnRequest (s : State) (i : Init) (hr : s.Ready i) :
    exec (.psqOnRequest i) s = .next (let u := s.pseq 0x3; u.psqOn) := by
  refine congrArg Host.Outcome.next ((State.writeRow_block s i 0x320 1 hr (by decide) (by decide) (by decide) (by decide) rfl rfl
    (by decide)).trans ?_)
  rfl

theorem exec_psqOffRequest (s : State) (i : Init) (hr : s.Ready i) :
    exec (.psqOffRequest i) s = .next (let u := s.pseq 0x3; u.psqOff) := by
  refine congrArg Host.Outcome.next ((State.writeRow_block s i 0x320 2 hr (by decide) (by decide) (by decide) (by decide) rfl rfl
    (by decide)).trans ?_)
  rfl

theorem exec_supCntclr (s : State) (i : Init) (d : Word) (hr : s.Ready i) :
    exec (.supCntclr i d) s = .next (let u := s.pseq 0x4; u.supClear (d.toNat % 65536)) := by
  refine congrArg Host.Outcome.next ((State.writeRow_block s i 0x4EC d hr (by decide) (by decide) (by decide) (by decide) rfl rfl
    (by decide)).trans ?_)
  rfl

theorem exec_clkRelock (s : State) (i : Init) (hr : s.Ready i) :
    exec (.clkRelock i) s = .next (let u := s.pseq 0x1; u.relockCmd 1) := by
  refine congrArg Host.Outcome.next ((State.writeRow_block s i 0x128 1 hr (by decide) (by decide) (by decide) (by decide) rfl rfl
    (by decide)).trans ?_)
  rfl

theorem exec_rstPort (s : State) (i : Init) (sel : BitVec 3) (key : Byte) (hr : s.Ready i) :
    exec (.rstPort i sel key) s = .next (let u := s.pseq 0x2; u.rstCmd (rstWord key.toNat sel.toNat 1).toNat) := by
  refine congrArg Host.Outcome.next ((State.writeRow_block s i 0x220 (rstWord key.toNat sel.toNat 1) hr (by decide) (by decide) (by decide) (by decide) rfl rfl
    (by decide)).trans ?_)
  rfl

theorem exec_rstChan (s : State) (i : Init) (key : Byte) (hr : s.Ready i) :
    exec (.rstChan i key) s = .next (let u := s.pseq 0x2; u.rstCmd (rstWord key.toNat 0 2).toNat) := by
  refine congrArg Host.Outcome.next ((State.writeRow_block s i 0x220 (rstWord key.toNat 0 2) hr (by decide) (by decide) (by decide) (by decide) rfl rfl
    (by decide)).trans ?_)
  rfl

theorem exec_rstCore (s : State) (i : Init) (key : Byte) (hr : s.Ready i) :
    exec (.rstCore i key) s = .next (let u := s.pseq 0x2; u.rstCmd (rstWord key.toNat 0 3).toNat) := by
  refine congrArg Host.Outcome.next ((State.writeRow_block s i 0x220 (rstWord key.toNat 0 3) hr (by decide) (by decide) (by decide) (by decide) rfl rfl
    (by decide)).trans ?_)
  rfl

theorem exec_rstDevice (s : State) (i : Init) (key : Byte) (hr : s.Ready i) :
    exec (.rstDevice i key) s = .next (let u := s.pseq 0x2; u.rstCmd (rstWord key.toNat 0 4).toNat) := by
  refine congrArg Host.Outcome.next ((State.writeRow_block s i 0x220 (rstWord key.toNat 0 4) hr (by decide) (by decide) (by decide) (by decide) rfl rfl
    (by decide)).trans ?_)
  rfl

theorem exec_modeReqRun (s : State) (i : Init) (hr : s.Ready i) :
    exec (.modeReqRun i) s = .next (let u := s.pseq 0x0; u.requestMode (wordOf (putBits (s.regWord 0x028).toNat 0 2 0)).toNat) := by
  refine congrArg Host.Outcome.next ((congrArg (fun t : State => t.writeNow i 0x028 (wordOf (putBits (t.regWord 0x028).toNat 0 2 0)))
    (State.ordered_ready 0x028 hr)).trans ((State.writeNow_block s i 0x028 (wordOf (putBits (s.regWord 0x028).toNat 0 2 0)) hr.1 (by decide) (by decide) (by decide)
    (by decide) rfl rfl (by decide)).trans ?_))
  rfl

theorem exec_modeReqStandby (s : State) (i : Init) (hr : s.Ready i) :
    exec (.modeReqStandby i) s = .next (let u := s.pseq 0x0; u.requestMode (wordOf (putBits (s.regWord 0x028).toNat 0 2 1)).toNat) := by
  refine congrArg Host.Outcome.next ((congrArg (fun t : State => t.writeNow i 0x028 (wordOf (putBits (t.regWord 0x028).toNat 0 2 1)))
    (State.ordered_ready 0x028 hr)).trans ((State.writeNow_block s i 0x028 (wordOf (putBits (s.regWord 0x028).toNat 0 2 1)) hr.1 (by decide) (by decide) (by decide)
    (by decide) rfl rfl (by decide)).trans ?_))
  rfl

theorem exec_modeReqDeepSleep (s : State) (i : Init) (hr : s.Ready i) :
    exec (.modeReqDeepSleep i) s = .next (let u := s.pseq 0x0; u.requestMode (wordOf (putBits (s.regWord 0x028).toNat 0 2 2)).toNat) := by
  refine congrArg Host.Outcome.next ((congrArg (fun t : State => t.writeNow i 0x028 (wordOf (putBits (t.regWord 0x028).toNat 0 2 2)))
    (State.ordered_ready 0x028 hr)).trans ((State.writeNow_block s i 0x028 (wordOf (putBits (s.regWord 0x028).toNat 0 2 2)) hr.1 (by decide) (by decide) (by decide)
    (by decide) rfl rfl (by decide)).trans ?_))
  rfl

theorem exec_mrefAcq (s : State) (i : Init) (hr : s.Ready i) :
    exec (.mrefAcq i) s = .next (let u := s.pseq 0x15; u.mrefAcq) := by
  refine congrArg Host.Outcome.next ((State.writeRow_block s i 0x15CC 1 hr (by decide) (by decide) (by decide) (by decide) rfl rfl
    (by decide)).trans ?_)
  rfl

theorem exec_mrefSyncenClear (s : State) (i : Init) (g : BitVec 3) (hr : s.Ready i) :
    exec (.mrefSyncenClear i g) s = .next (let u := s.pseq 0x15; (u.takeWrite 0x15C0 (wordOf (putBits (putBits (s.regWord 0x15C0).toNat 0 1 0) 4 3 g.toNat))).mrefCtlWritten) := by
  refine congrArg Host.Outcome.next ((congrArg (fun t : State => t.writeNow i 0x15C0 (wordOf (putBits (putBits (t.regWord 0x15C0).toNat 0 1 0) 4 3 g.toNat)))
    (State.ordered_ready 0x15C0 hr)).trans ((State.writeNow_block s i 0x15C0 (wordOf (putBits (putBits (s.regWord 0x15C0).toNat 0 1 0) 4 3 g.toNat)) hr.1 (by decide) (by decide) (by decide)
    (by decide) rfl rfl (by decide)).trans ?_))
  rfl

theorem exec_calCoefWrite (s : State) (i : Init) (d : Word) (hr : s.Ready i) :
    exec (.calCoefWrite i d) s = .next (let u := s.pseq 0xC; u.coefWrite d.toNat) := by
  refine congrArg Host.Outcome.next ((State.writeRow_block s i 0xC40 d hr (by decide) (by decide) (by decide) (by decide) rfl rfl
    (by decide)).trans ?_)
  rfl

theorem exec_accclrLo (s : State) (i : Init) (d : Word) (hr : s.Ready i) :
    exec (.accclr i false d) s = .next (let u := s.pseq 0xC; u.wr 0xC80 (u.rd 0xC80 ||| d)) := by
  refine congrArg Host.Outcome.next ((State.writeRow_block s i 0xC80 d hr (by decide) (by decide) (by decide) (by decide) rfl rfl
    (by decide)).trans ?_)
  rfl

theorem exec_accclrHi (s : State) (i : Init) (d : Word) (hr : s.Ready i) :
    exec (.accclr i true d) s = .next (let u := s.pseq 0xC; u.wr 0xC84 (u.rd 0xC84 ||| d)) := by
  refine congrArg Host.Outcome.next ((State.writeRow_block s i 0xC84 d hr (by decide) (by decide) (by decide) (by decide) rfl rfl
    (by decide)).trans ?_)
  rfl

theorem exec_rcpBarrel (s : State) (i : Init) (d : Word) (hr : s.Ready i) :
    exec (.rcpBarrel i d) s = .next (let u := s.pseq 0x18; u.barrel d.toNat) := by
  refine congrArg Host.Outcome.next ((State.writeRow_block s i 0x184C d hr (by decide) (by decide) (by decide) (by decide) rfl rfl
    (by decide)).trans ?_)
  rfl

theorem exec_rcpEcmd (s : State) (i : Init) (d : Word) (hr : s.Ready i) :
    exec (.rcpEcmd i d) s = .next (let u := s.pseq 0x18; u.ecmd d.toNat) := by
  refine congrArg Host.Outcome.next ((State.writeRow_block s i 0x1870 d hr (by decide) (by decide) (by decide) (by decide) rfl rfl
    (by decide)).trans ?_)
  rfl

theorem exec_estSeed (s : State) (i : Init) (d : Word) (hr : s.Ready i) :
    exec (.estSeed i d) s = .next (let u := s.pseq 0xD; u.seedWrite d.toNat) := by
  refine congrArg Host.Outcome.next ((State.writeRow_block s i 0xD30 d hr (by decide) (by decide) (by decide) (by decide) rfl rfl
    (by decide)).trans ?_)
  rfl

theorem exec_tblcmd (s : State) (i : Init) (d : Word) (hr : s.Ready i) :
    exec (.tblcmd i d) s = .next (let u := s.pseq 0xD; u.tblCmd d.toNat) := by
  refine congrArg Host.Outcome.next ((State.writeRow_block s i 0xD28 d hr (by decide) (by decide) (by decide) (by decide) rfl rfl
    (by decide)).trans ?_)
  rfl

theorem exec_tlmPkclr (s : State) (i : Init) (d : Word) (hr : s.Ready i) :
    exec (.tlmPkclr i d) s = .next (let u := s.pseq 0xF; u.pkClr d.toNat) := by
  refine congrArg Host.Outcome.next ((State.writeRow_block s i 0xF98 d hr (by decide) (by decide) (by decide) (by decide) rfl rfl
    (by decide)).trans ?_)
  rfl

theorem exec_efuFeedEnable0 (s : State) (i : Init) (hr : s.Ready i) :
    exec (.efuFeedEnable i 0) s = .next (let u := s.pseq 0xA; (u.takeWrite 0xA20 (wordOf (putBits (putBits (s.regWord 0xA20).toNat 0 1 1) 1 1 0))).fctlWritten 0 (bit (wordOf (putBits (putBits (s.regWord 0xA20).toNat 0 1 1) 1 1 0)).toNat 1)) := by
  refine congrArg Host.Outcome.next ((congrArg (fun t : State => t.writeNow i 0xA20 (wordOf (putBits (putBits (t.regWord 0xA20).toNat 0 1 1) 1 1 0)))
    (State.ordered_ready 0xA20 hr)).trans ((State.writeNow_block s i 0xA20 (wordOf (putBits (putBits (s.regWord 0xA20).toNat 0 1 1) 1 1 0)) hr.1 (by decide) (by decide) (by decide)
    (by decide) rfl rfl (by decide)).trans ?_))
  rfl

theorem exec_efuFeedEnable1 (s : State) (i : Init) (hr : s.Ready i) :
    exec (.efuFeedEnable i 1) s = .next (let u := s.pseq 0xA; (u.takeWrite 0xA60 (wordOf (putBits (putBits (s.regWord 0xA60).toNat 0 1 1) 1 1 0))).fctlWritten 1 (bit (wordOf (putBits (putBits (s.regWord 0xA60).toNat 0 1 1) 1 1 0)).toNat 1)) := by
  refine congrArg Host.Outcome.next ((congrArg (fun t : State => t.writeNow i 0xA60 (wordOf (putBits (putBits (t.regWord 0xA60).toNat 0 1 1) 1 1 0)))
    (State.ordered_ready 0xA60 hr)).trans ((State.writeNow_block s i 0xA60 (wordOf (putBits (putBits (s.regWord 0xA60).toNat 0 1 1) 1 1 0)) hr.1 (by decide) (by decide) (by decide)
    (by decide) rfl rfl (by decide)).trans ?_))
  rfl

theorem exec_efuFeedDisable0 (s : State) (i : Init) (hr : s.Ready i) :
    exec (.efuFeedDisable i 0) s = .next (let u := s.pseq 0xA; (u.takeWrite 0xA20 (wordOf (putBits (putBits (s.regWord 0xA20).toNat 0 1 0) 1 1 0))).fctlWritten 0 (bit (wordOf (putBits (putBits (s.regWord 0xA20).toNat 0 1 0) 1 1 0)).toNat 1)) := by
  refine congrArg Host.Outcome.next ((congrArg (fun t : State => t.writeNow i 0xA20 (wordOf (putBits (putBits (t.regWord 0xA20).toNat 0 1 0) 1 1 0)))
    (State.ordered_ready 0xA20 hr)).trans ((State.writeNow_block s i 0xA20 (wordOf (putBits (putBits (s.regWord 0xA20).toNat 0 1 0) 1 1 0)) hr.1 (by decide) (by decide) (by decide)
    (by decide) rfl rfl (by decide)).trans ?_))
  rfl

theorem exec_efuFeedDisable1 (s : State) (i : Init) (hr : s.Ready i) :
    exec (.efuFeedDisable i 1) s = .next (let u := s.pseq 0xA; (u.takeWrite 0xA60 (wordOf (putBits (putBits (s.regWord 0xA60).toNat 0 1 0) 1 1 0))).fctlWritten 1 (bit (wordOf (putBits (putBits (s.regWord 0xA60).toNat 0 1 0) 1 1 0)).toNat 1)) := by
  refine congrArg Host.Outcome.next ((congrArg (fun t : State => t.writeNow i 0xA60 (wordOf (putBits (putBits (t.regWord 0xA60).toNat 0 1 0) 1 1 0)))
    (State.ordered_ready 0xA60 hr)).trans ((State.writeNow_block s i 0xA60 (wordOf (putBits (putBits (s.regWord 0xA60).toNat 0 1 0) 1 1 0)) hr.1 (by decide) (by decide) (by decide)
    (by decide) rfl rfl (by decide)).trans ?_))
  rfl

theorem exec_efuClr0 (s : State) (i : Init) (hr : s.Ready i) :
    exec (.efuClr i 0) s = .next (let u := s.pseq 0xA; (u.takeWrite 0xA20 (s.regWord 0xA20 ||| 2)).fctlWritten 0 (bit (s.regWord 0xA20 ||| 2).toNat 1)) := by
  refine congrArg Host.Outcome.next ((congrArg (fun t : State => t.writeNow i 0xA20 (t.regWord 0xA20 ||| 2))
    (State.ordered_ready 0xA20 hr)).trans ((State.writeNow_block s i 0xA20 (s.regWord 0xA20 ||| 2) hr.1 (by decide) (by decide) (by decide)
    (by decide) rfl rfl (by decide)).trans ?_))
  rfl

theorem exec_efuClr1 (s : State) (i : Init) (hr : s.Ready i) :
    exec (.efuClr i 1) s = .next (let u := s.pseq 0xA; (u.takeWrite 0xA60 (s.regWord 0xA60 ||| 2)).fctlWritten 1 (bit (s.regWord 0xA60 ||| 2).toNat 1)) := by
  refine congrArg Host.Outcome.next ((congrArg (fun t : State => t.writeNow i 0xA60 (t.regWord 0xA60 ||| 2))
    (State.ordered_ready 0xA60 hr)).trans ((State.writeNow_block s i 0xA60 (s.regWord 0xA60 ||| 2) hr.1 (by decide) (by decide) (by decide)
    (by decide) rfl rfl (by decide)).trans ?_))
  rfl

theorem exec_efuCntclr (s : State) (i : Init) (d : Word) (hr : s.Ready i) :
    exec (.efuCntclr i d) s = .next (let u := s.pseq 0xA; u.efuCntclr d.toNat) := by
  refine congrArg Host.Outcome.next ((State.writeRow_block s i 0xAA8 d hr (by decide) (by decide) (by decide) (by decide) rfl rfl
    (by decide)).trans ?_)
  rfl

theorem exec_thmPkclr (s : State) (i : Init) (d : Word) (hr : s.Ready i) :
    exec (.thmPkclr i d) s = .next (let u := s.pseq 0x5; u.thmPkclr d.toNat) := by
  refine congrArg Host.Outcome.next ((State.writeRow_block s i 0x574 d hr (by decide) (by decide) (by decide) (by decide) rfl rfl
    (by decide)).trans ?_)
  rfl

theorem exec_bootGo (s : State) (i : Init) (d : Word) (hr : s.Ready i) :
    exec (.bootGo i d) s = .next (let u := s.pseq 0x16; u.bootCmd i (d ||| 1).toNat) := by
  refine congrArg Host.Outcome.next ((State.writeRow_block s i 0x1628 (d ||| 1) hr (by decide) (by decide) (by decide) (by decide) rfl rfl
    (by decide)).trans ?_)
  rfl

theorem exec_coreC2h (s : State) (i : Init) (d : Word) (hr : s.Ready i) :
    exec (.coreC2h i d) s = .next (let u := s.pseq 0x16; if bit (d ||| 1).toNat 0 then u.ev pageCORE 0 else u) := by
  refine congrArg Host.Outcome.next ((State.writeRow_block s i 0x1650 (d ||| 1) hr (by decide) (by decide) (by decide) (by decide) rfl rfl
    (by decide)).trans ?_)
  rfl

theorem exec_wdgCheckin (s : State) (i : Init) (d : Word) (hr : s.Ready i) :
    exec (.wdgCheckin i false d) s = .next (let u := s.pseq 0x7; u.checkIn d.toNat) := by
  refine congrArg Host.Outcome.next ((State.writeRow_block s i 0x730 d hr (by decide) (by decide) (by decide) (by decide) rfl rfl
    (by decide)).trans ?_)
  rfl

theorem exec_wdgLock (s : State) (i : Init) (d : Word) (hr : s.Ready i) :
    exec (.wdgLock i d) s = .next (let u := s.pseq 0x7; u.wdgCtl ((d ||| 1).toNat % 0x10000 &&& 0xFF03)) := by
  refine congrArg Host.Outcome.next ((State.writeRow_block s i 0x72C (d ||| 1) hr (by decide) (by decide) (by decide) (by decide) rfl rfl
    (by decide)).trans ?_)
  rfl

theorem exec_capstatRearm (s : State) (i : Init) (d : Word) (hr : s.Ready i) :
    exec (.capstatRearm i d) s = .next (let u := s.pseq 0x7; u.capRearm (d ||| 1).toNat) := by
  refine congrArg Host.Outcome.next ((State.writeRow_block s i 0x748 (d ||| 1) hr (by decide) (by decide) (by decide) (by decide) rfl rfl
    (by decide)).trans ?_)
  rfl

theorem exec_dbgNonce (s : State) (i : Init) (d : Word) (hr : s.Ready i) :
    exec (.dbgNonce i d) s = .next (let u := s.pseq 0x17; u.dbgCmd (d ||| 1).toNat) := by
  refine congrArg Host.Outcome.next ((State.writeRow_block s i 0x1734 (d ||| 1) hr (by decide) (by decide) (by decide) (by decide) rfl rfl
    (by decide)).trans ?_)
  rfl

theorem exec_dbgResp (s : State) (i : Init) (d : Word) (hr : s.Ready i) :
    exec (.dbgResp i d) s = .next (let u := s.pseq 0x17; u.debugRespond d) := by
  refine congrArg Host.Outcome.next ((State.writeRow_block s i 0x1730 d hr (by decide) (by decide) (by decide) (by decide) rfl rfl
    (by decide)).trans ?_)
  rfl

theorem exec_dbgRelock (s : State) (i : Init) (d : Word) (hr : s.Ready i) :
    exec (.dbgRelock i d) s = .next (let u := s.pseq 0x17; u.dbgCmd (d ||| 2).toNat) := by
  refine congrArg Host.Outcome.next ((State.writeRow_block s i 0x1734 (d ||| 2) hr (by decide) (by decide) (by decide) (by decide) rfl rfl
    (by decide)).trans ?_)
  rfl

theorem exec_recFlush (s : State) (i : Init) (d : Word) (hr : s.Ready i) :
    exec (.recFlush i d) s = .next (let u := s.pseq 0x8; u.flCmd (d ||| 1).toNat) := by
  refine congrArg Host.Outcome.next ((State.writeRow_block s i 0x84C (d ||| 1) hr (by decide) (by decide) (by decide) (by decide) rfl rfl
    (by decide)).trans ?_)
  rfl

theorem exec_recHdr (s : State) (i : Init) (d : Word) (hr : s.Ready i) :
    exec (.recHdr i d) s = .next (let u := s.pseq 0x8; u.flCmd (d ||| 2).toNat) := by
  refine congrArg Host.Outcome.next ((State.writeRow_block s i 0x84C (d ||| 2) hr (by decide) (by decide) (by decide) (by decide) rfl rfl
    (by decide)).trans ?_)
  rfl

theorem exec_storeRead (s : State) (i : Init) (d : Word) (hr : s.Ready i) :
    exec (.storeRead i d) s = .next (let u := s.pseq 0x8; u.storeCmd i (d ||| 1).toNat) := by
  refine congrArg Host.Outcome.next ((State.writeRow_block s i 0x858 (d ||| 1) hr (by decide) (by decide) (by decide) (by decide) rfl rfl
    (by decide)).trans ?_)
  rfl

theorem exec_storeWrite (s : State) (i : Init) (d : Word) (hr : s.Ready i) :
    exec (.storeWrite i d) s = .next (let u := s.pseq 0x8; u.storeCmd i (d ||| 2).toNat) := by
  refine congrArg Host.Outcome.next ((State.writeRow_block s i 0x858 (d ||| 2) hr (by decide) (by decide) (by decide) (by decide) rfl rfl
    (by decide)).trans ?_)
  rfl

theorem exec_clrNonce (s : State) (i : Init) (d : Word) (hr : s.Ready i) :
    exec (.clrNonce i d) s = .next (let u := s.pseq 0x8; u.clearNonce i (d ||| 1).toNat) := by
  refine congrArg Host.Outcome.next ((State.writeRow_block s i 0x8B0 (d ||| 1) hr (by decide) (by decide) (by decide) (by decide) rfl rfl
    (by decide)).trans ?_)
  rfl

theorem exec_otpRead (s : State) (i : Init) (d : Word) (hr : s.Ready i) :
    exec (.otpRead i d) s = .next (let u := s.pseq 0x6; (u.takeWrite 0x620 d).otpReadStart) := by
  refine congrArg Host.Outcome.next ((State.writeRow_block s i 0x620 d hr (by decide) (by decide) (by decide) (by decide) rfl rfl
    (by decide)).trans ?_)
  rfl

theorem exec_ulkCntclr0 (s : State) (i : Init) (d : Word) (hr : s.Ready i) :
    exec (.ulkCntclr i 0 d) s = .next (let u := s.pseq 0x11; u.ulkCntclr 0 d.toNat) := by
  refine congrArg Host.Outcome.next ((State.writeRow_block s i 0x1148 d hr (by decide) (by decide) (by decide) (by decide) rfl rfl
    (by decide)).trans ?_)
  rfl

theorem exec_ulkCntclr1 (s : State) (i : Init) (d : Word) (hr : s.Ready i) :
    exec (.ulkCntclr i 1 d) s = .next (let u := s.pseq 0x12; u.ulkCntclr 1 d.toNat) := by
  refine congrArg Host.Outcome.next ((State.writeRow_block s i 0x1248 d hr (by decide) (by decide) (by decide) (by decide) rfl rfl
    (by decide)).trans ?_)
  rfl

theorem exec_ulkCntclr2 (s : State) (i : Init) (d : Word) (hr : s.Ready i) :
    exec (.ulkCntclr i 2 d) s = .next (let u := s.pseq 0x13; u.ulkCntclr 2 d.toNat) := by
  refine congrArg Host.Outcome.next ((State.writeRow_block s i 0x1348 d hr (by decide) (by decide) (by decide) (by decide) rfl rfl
    (by decide)).trans ?_)
  rfl

theorem exec_ulkCntclr3 (s : State) (i : Init) (d : Word) (hr : s.Ready i) :
    exec (.ulkCntclr i 3 d) s = .next (let u := s.pseq 0x14; u.ulkCntclr 3 d.toNat) := by
  refine congrArg Host.Outcome.next ((State.writeRow_block s i 0x1448 d hr (by decide) (by decide) (by decide) (by decide) rfl rfl
    (by decide)).trans ?_)
  rfl

theorem exec_ptmStep (s : State) (i : Init) (hr : s.Ready i) :
    exec (.ptmStep i) s = .next (let u := s.pseq 0x15; u.ptCmd 1) := by
  refine congrArg Host.Outcome.next ((State.writeRow_block s i 0x1528 1 hr (by decide) (by decide) (by decide) (by decide) rfl rfl
    (by decide)).trans ?_)
  rfl

theorem exec_ptmAcq (s : State) (i : Init) (hr : s.Ready i) :
    exec (.ptmAcq i) s = .next (let u := s.pseq 0x15; u.ptCmd 2) := by
  refine congrArg Host.Outcome.next ((State.writeRow_block s i 0x1528 2 hr (by decide) (by decide) (by decide) (by decide) rfl rfl
    (by decide)).trans ?_)
  rfl

theorem exec_ptmSett (s : State) (i : Init) (hr : s.Ready i) :
    exec (.ptmSett i) s = .next (let u := s.pseq 0x15; u.ptCmd 4) := by
  refine congrArg Host.Outcome.next ((State.writeRow_block s i 0x1528 4 hr (by decide) (by decide) (by decide) (by decide) rfl rfl
    (by decide)).trans ?_)
  rfl

theorem exec_barSend (s : State) (i : Init) (hr : s.Ready i) :
    exec (.barSend i) s = .next (let u := s.pseq 0x15; u.brCmd 1) := by
  refine congrArg Host.Outcome.next ((State.writeRow_block s i 0x1574 1 hr (by decide) (by decide) (by decide) (by decide) rfl rfl
    (by decide)).trans ?_)
  rfl

end Sys2Proof.Machine
end

