-- ==== Sys2Proof/WellFormed.lean ====
section
/-!
DEFINITION. Sys2Proof/WellFormed.lean: commands that the world outside the block can give.

The operands of a command that a converter, a line or a timer gives are bounded by what that source can show; software's operands are
bounded by their types.  The meanings are total, and do not ask for a well-formed command.
-/

namespace Sys2Proof

/-- A raw average of a converter lies within full scale, 2^30 (R203). -/
def rawOk (x : Int) : Bool := decide (-2 ^ 30 ≤ x) && decide (x ≤ 2 ^ 30)

def LaneIn.ok (x : LaneIn) : Bool := rawOk x.i && rawOk x.v && decide (x.csnLo ≤ x.csnHi)

/-- At most 64 lanes and 8 spare converters (R1, R191), and the feed-forward samples in the order in which they complete (R280). -/
def FrameIn.ok (x : FrameIn) : Bool :=
  decide (x.lanes.length ≤ 64) && x.lanes.all LaneIn.ok && decide (x.spares.length ≤ 8) && x.spares.all rawOk
    && decide (x.vbs.Pairwise (fun a b => a.cycle ≤ b.cycle))

/-- One write of a `CAP` register in one cycle (R111). -/
def GrantIn.ok (x : GrantIn) : Bool := decide ((x.capWrites.map (fun e => e.1)).Nodup)

/-- Three ladder points for each range type that a converter has, none for the others (R208). -/
def CalPoints.ok (x : CalPoints) : Bool :=
  let p (xs : List Int) : Bool := (xs.length == 3 || xs.isEmpty) && xs.all rawOk
  p x.hi && p x.lo && p x.volt

/-- A packet carries at most 64 data words (R497). -/
def Packet.ok (x : Packet) : Bool := decide (x.data.length ≤ 64)

/-- A slot of 2 KB, 512 words, is the most that a store write is read back as (R309, R423). -/
def StoreReply.ok (r : StoreReply) : Bool :=
  match r with
  | .differs ws => decide (ws.length ≤ 512)
  | _ => true

/-- A frame's words arrive whole: a frame that ends before its address is complete has none (R123). -/
def WriteFrame.ok (x : WriteFrame) : Bool :=
  match x.cut with
  | .inOpcode | .inAddress => x.words.isEmpty
  | _ => true

def ReadFrame.ok (x : ReadFrame) : Bool :=
  match x.cut with
  | .inOpcode | .inAddress => x.words.isEmpty
  | _ => true

/-- What the sources of a command can show. -/
def wellFormed (c : Instr) : Bool :=
  match c with
  | .frameBoundary x => x.ok
  | .grantApply x => x.ok
  | .spareCalDone _ pts => pts.ok
  | .packetReceived _ x => x.pkt.ok
  | .recStoreWriteDone r => r.ok
  | .writebackDone r => r.ok
  | .lastGaspComplete _ x => x.first.ok && x.second.ok
  | .hostWr x => x.ok
  | .hostWrq x => x.ok
  | .hostRd x => x.ok
  | .hostRdq x => x.ok
  | .xrefReading _ raw => rawOk raw
  | _ => true

/-- A well-formed command. -/
def Instr.WellFormed (c : Instr) : Prop := wellFormed c = true

end Sys2Proof
end

