-- ==== Sys2Proof/Tests/Slice0.lean ====
section
/-!
SUPPORT. Sys2Proof/Tests/Slice0.lean: states and operands that meet the hypotheses of the statements, ill-formed commands, and single
commands against numbers taken from spec/.

A witness lists the hypotheses of the statement it is named after, clause by clause, each at a small state built from `up` by
setting fields.  Hypotheses that `up` meets alike for every clause (CLK_SYS runs, the lane is enabled) stand once.
-/

namespace Sys2Proof.Tests

set_option maxRecDepth 20000

-- One test at a time: each kernel evaluation on a thread of its own would exhaust the memory of the check.
set_option Elab.async false

open Sys2Proof.Machine

/-- A TK864-G out of reset, its clock running, in STANDBY. -/
def up : State :=
  { State.reset with
    rst := { Rst.reset with inReset := false }
    clk := { Clk.reset with pllOn := true }
    shadow := { Shadow.reset with lanes := 64, eis := true, nimh := true, grading := true, life := .test } }

/-- `s` with some fields set. -/
def put (s : State) (fs : List (Fld × Nat)) : State := fs.foldl (fun t p => t.put p.1 p.2) s

/-- `up` with some fields set. -/
def upWith (fs : List (Fld × Nat)) : State := put up fs

/-- `s` with lane 0 changed. -/
def lane0 (s : State) (f : Lane → Lane) : State := s.modLane 0 f

/-- `s` with channel 0 in a state. -/
def chan0 (s : State) (c : ChSt) : State := lane0 s (fun x => { x with chan := { x.chan with st := c } })

/-- `s` with the engine of lane 0 changed. -/
def eng0 (s : State) (f : Eng → Eng) : State := lane0 s (fun x => { x with eng := f x.eng })

/-- `s` with record `y` in recipe memory. -/
def rec_ (s : State) (y : Nat) (r : List Word) : State := s.setMemWords (0x40000 + 32 * y) r

/-- `s` with port 0 changed. -/
def port0 (s : State) (f : Port → Port) : State := { s with ports := s.ports.setIfInBounds 0 (f (s.port 0)) }

/-- `s` with the core out of reset and running. -/
def coreOn (s : State) : State := s.wr 0x160C 1

/-- `up` with the power sequencer in a state, with outputs raised. -/
def psq (c : SeqState) (raised : List Nat) : State := { up with psq := { Psq.reset with st := c, raised := raised, order := raised } }

/-- `s` with spare 0 changed. -/
def spare0 (s : State) (f : Spare → Spare) : State := s.modSpare 0 f

/-- `s` with feed 1 changed. -/
def feed1 (s : State) (f : Feed → Feed) : State := s.modFeed 1 f

/-- `up` with feed 1 in state `n`. -/
def feedAt (n : Nat) : State := upWith [(EFU_FSTAT_ST 1, n)]

/-- The core runs, and the watchdog counts with the window 10 to 20, task 0 enabled, a ledger and a count. -/
def wdogOn (ledger count : Nat) : State :=
  let s := coreOn (upWith [(WDG_LEDGER_LEDGER, ledger), (WDG_COUNT_C, count)])
  { s with wdg := { Wdg.reset with on := true, opens := 10, closes := 20, tasks := 1, t520 := true } }

/-- `s` with an image of 36 bytes in SRAM. -/
def image (s : State) : State := s.setMemWords 0x100000 [0x31574655, 36, 0x20, 0x2144DF1C, 0, 0, 0, 0, 0]

/-- `s` with handlers of the software interrupt and of the illegal instruction. -/
def handler (s : State) : State := { s with core := { CoreSt.reset with handlers := [(0x80000003, 0x100020), (2, 0x100040)] } }

/-- `up` with both hold-offs running to a time. -/
def held (t : Nat) : State := { up with dbg := { Dbg.reset with holdEnd := t }, evr := { Evr.reset with holdEnd := t } }

/-- A part with a key and an unanswered debug nonce, and the low word of a response. -/
def nonced (x : Nat) : State :=
  let s := (up.wr 0x1724 5).wr 0x1728 6
  { s with dbg := { Dbg.reset with nonce := true, respL := BitVec.ofNat 32 x }, shadow := { up.shadow with key := some [1, 2, 3, 4], life := .field } }

/-- A part with a key, its core running, and a clear whose response is in hand. -/
def cleared (x : Nat) : State :=
  let s := coreOn (((upWith [(REC_CLRSTAT_STATE, 2)]).wr 0x8A0 5).wr 0x8A4 6)
  { s with evr := { Evr.reset with respL := BitVec.ofNat 32 x, respH := BitVec.ofNat 32 (x / 2 ^ 32) },
           shadow := { up.shadow with key := some [1, 2, 3, 4] } }

/-- `s` with the bits of `w` blown in an OTP word. -/
def fused (s : State) (k : Nat) (w : Word) : State := { s with otp := sparseSet (fun _ => OtpWord.blank) s.otp k (.blown w) }

/-- `up` with port 0 in a link state. -/
def port0At (n : Nat) : State := upWith [(ULK_STATE_ST 0, n)]

/-- `s` with one packet waiting for port `x`. -/
def sending (s : State) (x : Nat) (w : Bool) : State := { s with outbox := [⟨{ blankPacket with wrapped := w }, x, none⟩] }

/-- Port 0 active, with a packet in the receive queue. -/
def received (k : Packet) : State := { port0At 4 with rxq := [⟨0, 0, 0, k⟩] }

/-- A blocking service and a ring walk in progress, tag 5 of port 0 held by one of them, and a completion received. -/
def waiting (k : Packet) (walk : Bool) : State :=
  let s := port0 (coreOn (received k)) (fun x => { x with tags := [⟨5, walk⟩] })
  { s with core := { CoreSt.reset with wait := some ⟨1, 0, 5, 0x100000⟩ }, link := { LinkCfg.reset with walk := some ⟨false, 1, [], none⟩ } }

/-- The core runs, 3 s after the address was assigned. -/
def placed (f : LinkCfg → LinkCfg) : State :=
  { coreOn up with link := f { LinkCfg.reset with assigned := true }, time := ⟨0, 0, 3000000000⟩ }

/-- A TIMESYNC packet of a kind, with the sender in state `st`. -/
def sync (kind st : Nat) : Packet :=
  { blankPacket with typ := 7, dlen := 8, data := [BitVec.ofNat 32 (kind + st * 2 ^ 16), 0, 0, 0, 0, 0, 0, 0] }

/-- `up` with rail 15 watched between 100 and 300, two low samples to its fault, and a run of low samples. -/
def railed (good low : Nat) : State :=
  let s := (upWith [(SUP_GOOD_GOOD, good)]).wr 0x45C (BitVec.ofNat 32 (100 + 300 * 2 ^ 12 + 2 * 2 ^ 24 + 2 ^ 31))
  { s with rails := s.rails.setIfInBounds 15 { Rail.reset with lowRun := low }, psq := { s.psq with scan := 15 } }

/-- Lane 0 active and its engine running, with the words of some records and no check of records. -/
def programmed (rs : List (Nat × List Word)) : State :=
  let s := rs.foldl (fun s r => rec_ s r.1 r.2) (upWith [(RCP_CFG_CHKEN, 0)])
  eng0 (chan0 s .active) (fun e => { e with st := .run, hasRef := true })

/-- `programmed` in a step of a record, a rest after it. -/
def inRec (ws : List Word) (f : Lane → Lane) : State :=
  lane0 (eng0 (programmed [(1, [1])]) (fun e => { e with recd := ws })) f

/-- In a charge step with the given flags of word 0, in a phase, with a profile in which every tracker is on. -/
def charging (flags : Word) (p : Phase) (f : Chg → Chg) : State :=
  inRec [7 + flags] (fun x => { x with
    chg := f { x.chg with phase := p, zone := .normal, prof := [0, 0x785A1400, 0x1000000, 0, 0, 0, 0, 0x10101] }
    meas := { x.meas with iS := 50 } })

/-- In RUN, with the supplies good, the clocks locked and SAFE_N released. -/
def startable : State :=
  { upWith [(SYS_MODE_CUR, 0), (SUP_GOOD_GOOD, 2), (CLK_STAT_PLL_LOCK, 1), (CLK_STAT_DL_LOCK, 1), (LANE_LANELIM_ILANE 0, 1), (LANE_RSH_RSH 0, 1),
      (LANE_HARDLIM_HVMIN 0, 0)] with
    pins := { Pins.reset with safeIn := false } }

/-- In a sweep. -/
def sweeping (f : Sweep → Sweep) : State := inRec [9] (fun x => { x with swp := f x.swp })

/-- Ladder points at reference 2.5 V, in `k` eighths of the true readings. -/
def ladderPts (k : Int) : CalPoints :=
  ⟨[0, 50000000 * k, -50000000 * k], [0, 50000000 * k, -50000000 * k], [0, 20000000 * k, 40000000 * k]⟩

/-- Spare 0 in a phase of a visit of input 0, its matching window finished. -/
def roving (n : Nat) : State := spare0 up (fun x => { x with phase := n, input := 0, subj := 0, ovl := 10200, ready := some 0 })

/-- LOCKED, with a stamp, 6,400 taps after the clock began. -/
def stamped (x : Int) : State :=
  { upWith [(PTM_MREFSTAT_ST, mrLocked)] with
    mref := { Mref.reset with stamp := some x, lastInt := 6400 }
    time := ⟨500, 100, 500⟩ }

/-- Lane 0 in a state and marked active, with the direction of its grant, in an on-time or not. -/
def switching (c : LaneSt) (dis on : Bool) : State :=
  lane0 up (fun x => { x with st := c, modu := { x.modu with active := true, grDis := dis, onTime := on } })

/-- No condition of the step of lane 0, and its check byte, is in use. -/
def quiet0 (s : State) : Bool :=
  condCmp (recCond (s.eng 0).recd 0) == 0 && condCmp (recCond (s.eng 0).recd 1) == 0 && recW (s.eng 0).recd 7 == 0

/-- The zone and the level of channel 0 stay as they are. -/
def steady0 (s : State) : Bool :=
  nextZone (s.eng 0).recd (s.chg 0).prof (s.chg 0).zone (s.lane 0).meas.temp == (s.chg 0).zone &&
    bitsOf (s.get THM_LEVEL_LVL) 0 4 == (s.chg 0).lvl && !(s.chg 0).zone.suspends

/-- No timer of channel 0 ends in the next evaluation, and the cell is not low. -/
def calm0 (s : State) : Bool :=
  recTimer (s.eng 0).recd == 0 && phaseLimit (s.chg 0).prof (s.chg 0).phase == 0 && profVtrk (s.chg 0).prof == 0

/-- Levels are updated, and the last reading of bank 7 is given. -/
def warmed (t : Option Int) : State :=
  { upWith [(THM_THRCFG_AUTOEN, 1)] with thm := { Thm.reset with last := Thm.reset.last.setIfInBounds 7 t } }

/-- `s` with some PTM fields set and in force since the last boundary. -/
def acting (s : State) (fs : List (Fld × Nat)) : State := (put s fs).ptLatch

/-! ### Ill-formed commands -/

theorem test_wf_raw : wellFormed (.xrefReading 0 (2 ^ 30 + 1)) = false ∧ wellFormed (.xrefReading 0 (2 ^ 30)) = true := by decide
theorem test_wf_lane : wellFormed (.frameBoundary ⟨[⟨0, 0, 0, false, false, 0, 1, 0⟩], [], 0, 0, []⟩) = false := by decide
theorem test_wf_spares : wellFormed (.frameBoundary ⟨[], List.replicate 9 0, 0, 0, []⟩) = false := by decide
theorem test_wf_vbs : wellFormed (.frameBoundary ⟨[], [], 0, 0, [⟨0, 5, 1⟩, ⟨3, 4, 1⟩]⟩) = false
    ∧ wellFormed (.frameBoundary ⟨[], [], 0, 0, [⟨0, 5, 1⟩, ⟨3, 5, 1⟩]⟩) = true := by decide
theorem test_wf_gasp : wellFormed (.lastGaspComplete true ⟨.timedOut, .differs (List.replicate 513 0)⟩) = false := by decide +kernel
theorem test_wf_grant : wellFormed (.grantApply ⟨0, [(3, 1), (3, 2)]⟩) = false ∧ wellFormed (.grantApply ⟨0, [(3, 1), (4, 2)]⟩) = true := by
  decide
theorem test_wf_points : wellFormed (.spareCalDone 0 ⟨[1, 2], [], []⟩) = false := by decide
theorem test_wf_packet : wellFormed (.packetReceived 0 ⟨0, true, true, true, ⟨0, 0, []⟩, 0, { blankPacket with data := List.replicate 65 0 }⟩)
    = false := by decide
theorem test_wf_recStore : wellFormed (.recStoreWriteDone (.differs (List.replicate 513 0))) = false := by decide +kernel
theorem test_wf_writeback : wellFormed (.writebackDone (.differs (List.replicate 513 0))) = false := by decide +kernel
theorem test_wf_write : wellFormed (.hostWr ⟨0, [⟨1, 0, []⟩], .inAddress⟩) = false ∧ wellFormed (.hostWrq ⟨0, [⟨1, 0, []⟩], .inOpcode⟩) = false := by
  decide
theorem test_wf_read : wellFormed (.hostRd ⟨0, [[]], .inOpcode⟩) = false ∧ wellFormed (.hostRdq ⟨0, [[]], .inAddress⟩) = false := by decide

/-! ### Numbers that spec/ gives -/

/-- R124: over the ASCII bytes "123456789" the CRC gives 0xF4. -/
theorem test_crc8 : crc8 [0x31, 0x32, 0x33, 0x34, 0x35, 0x36, 0x37, 0x38, 0x39] = 0xF4 := by decide +kernel

/-- Chapter 01: zone 9, shelf 200, position 37 has address 0x2_7225. -/
theorem test_address : addrZone 0x27225 = 9 ∧ addrShelf 0x27225 = 200 ∧ addrDev 0x27225 = 37 := by decide

/-- Chapter 07: at reset lanes 8 to 11 hold slots 4, 36, 20 and 52. -/
theorem test_slots : [8, 9, 10, 11].map (fun l => (resetWord (0x4054 + 256 * l)).toNat) = [4, 36, 20, 52] := by decide +kernel

/-- Chapter 20: the second after 2025-02-30 23:59:59 is 2025-03-01 00:00:00. -/
theorem test_calendar :
    let t := (upWith [(RTC_CALA_SEC, 59), (RTC_CALA_MIN, 59), (RTC_CALB_HOUR, 23), (RTC_CALB_DAY, 30), (RTC_CALB_MONTH, 2),
      (RTC_CALB_YEAR, 25)]).secCarry
    [RTC_CALA_SEC, RTC_CALA_MIN, RTC_CALB_HOUR, RTC_CALB_DAY, RTC_CALB_MONTH, RTC_CALB_YEAR].map t.get = [0, 0, 0, 1, 3, 25] := by
  decide +kernel

/-- The next state of a command, where it answers one. -/
def next (o : Host.Outcome State Fault Refusal) : State := match o with
  | .next t => t
  | .fault r => nomatch r
  | .refused _ => State.reset

/-- Chapter 23: T1 = 1,000, T2 = 1,480, T3 = 2,000 and T4 = 1,560 ns with ASYM = 0 give θ = −460 ns and d = 20 ns, in 1/32 ns. -/
theorem test_timesync :
    let s := { up with
      ptm := { Ptm.reset with req := some (0, 0), seqn := 0 }
      rxq := [⟨0, 0, 1560 * 256, { blankPacket with typ := 7, rsp := false, dlen := 8, data := [0x20002, 1000, 0, 1480, 0, 2000, 0, 0] }⟩] }
    let t := next (exec (.timesyncRsp 0) s)
    t.getI PTM_OFFSET_THETA = -460 * 32 ∧ t.getI PTM_DELAY_D = 20 * 32 := by decide +kernel

/-- R128: SAFE_N acting takes an active channel to SAFE and sets its event. -/
theorem test_safe : let t := next (exec .safeNAssert (chan0 up .active))
    (t.lane 0).chan.st = .safe ∧ (t.pevt pageSYS).testBit 2 = true := by decide +kernel

/-- R91: a mode request is recorded. -/
theorem test_mode : (next (exec (.modeReqRun .host) up)).rst.modeReq = some .run := by decide +kernel

/-- R59: ENX1 named twice is refused. -/
theorem test_order : ((next (exec (.psqOnRequest .host) (upWith [(PSQ_ORDER_SLOT, 9), (PSQ_ORDER_N, 2)]))).pevt pagePSQ).testBit 5 = true := by
  decide +kernel

/-- R58: an order of ENX2 and ENX1 raises ENX2 first. -/
theorem test_first : (next (exec (.psqOnRequest .host) (upWith [(PSQ_ORDER_SLOT, 10), (PSQ_ORDER_N, 2)]))).psq.raised = [2] := by
  decide +kernel

/-- R82: the key 0x5A resets nothing. -/
theorem test_key : (next (exec (.rstDevice .host 0x5A) up)).rst.inReset = false
    ∧ (next (exec (.rstDevice .host 0xA5) up)).rst.inReset = true := by decide +kernel

/-- R109: a staged field keeps its active value. -/
theorem test_stage : let t := next (exec (.regWrite .host 0x4074 7) up)
    t.rd 0x4074 = 0 ∧ t.staged 0x4074 = some ⟨7, false⟩ := by decide +kernel

/-- R442: a key other than 0x5A is refused with its reason. -/
theorem test_otp : (next (exec (.otpProgram .host 0 true) up)).get OTP_PGMSTAT_REASON = 4 := by decide +kernel

/-- Step takes the front command, and leaves the rest (R19). -/
theorem test_step : (next (step { up with pending := [.safeNRelease, .safeNAssert] })).pending = [.safeNAssert] := by decide +kernel

/-- On an empty queue one cycle of 5 ns passes (assumption 10). -/
theorem test_idle : (next (step up)).time = ⟨5, 1, 5⟩ := by decide +kernel

/-! ### Witnesses of the hypotheses -/

theorem witness_ClearingEventsAndCounters :
    (up.running = true ∧ up.present 0 = true ∧ up.present 0x7F = true) ∧
    (hasBlock 0x7F = true ∧ ({ up with shadow := { up.shadow with lanes := 16 } } : State).present 0x7F = false) ∧
    (up.present 0x19 = false ∧ hasBlock 0x19 = false ∧ hasBlock 0xFF = false) := by
  decide +kernel

theorem witness_StagingCommitsAndFences :
    (wordAddr 0x4074 / 256 = pageLANE 0 ∧ up.hidden 0x4074 = false ∧ wordOf (rowOf 0x4074).rws ≠ 0 ∧ 0x4074 % 256 ≠ 0x6C) ∧
    (up.enabled 63 = true ∧ up.hidden 0x7F74 = false ∧ wordOf (rowOf 0x7F74).rws ≠ 0) ∧
    (0 ∈ (up.wr 0x38 1).members ((up.wr 0x38 1).leadOf 0) ∧ ((up.wr 0x38 1).laneBits 0x38 0x3C).testBit 0 = true) ∧
    up.laneBits 0x38 0x3C = 0 ∧
    ({ up with hif := { Hif.reset with queue := [(0x078, 7)] } } : State).hif.queue = [7].map (fun v => (0x078, v)) ∧
    (writable (wordAddr 0x180000) = false ∧ regionOf (wordAddr 0x7C) = .pages ∧ writable (wordAddr 0x7C) = true ∧
      up.notApplied .host 0x7C = true) ∧
    (regionOf 0x078 = .pages ∧ writable 0x078 = true ∧ (∀ i ∈ [Init.core, .host, .u 3], up.notApplied i 0x078 = false ∧
      (up.writeEffect i 0x078 7).isNone = true) ∧ plinthReg 0x078 = false ∧ (rowOf 0x078).rws = 0) ∧
    (regionOf (wordAddr 0x7FFFC) = .recipe ∧ up.running = true ∧ writable (wordAddr 0x7FFFC) = true) := by
  decide +kernel

theorem witness_ResetCommandActsOnlyWithItsKey :
    (up.running = true ∧ (0x5A : Byte) ≠ 0xA5) ∧
    (0 ∈ (up.wr 0x224 1).leads ∧ 0 ∈ up.members 0 ∧ ((up.wr 0x224 1).laneBits 0x224 0x228).testBit 0 = true) := by
  decide +kernel

theorem witness_OnRequestThatNamesAnOutputTwiceIsRefused :
    (let s := upWith [(PSQ_ORDER_SLOT, 9), (PSQ_ORDER_N, 2)]; s.psq.st = .off ∧ 2 ≤ s.orderList.count 1) := by
  decide +kernel

theorem witness_PowerSequenceFollowsRequests :
    (up.psq.st = .off ∧ (∀ k, k < 8 → up.orderList.count k ≤ 1) ∧ up.orderList = []) ∧
    (let s := upWith [(PSQ_ORDER_SLOT, 10), (PSQ_ORDER_N, 2)]; (∀ k, k < 8 → s.orderList.count k ≤ 1) ∧ s.orderList = [2, 1]) ∧
    (∀ c ∈ [SeqState.down, .minoff, .faildown, .latched, .up, .on], (psq c [1]).running = true ∧ (psq c [1]).psq.st = c ∧
      (psq c [1]).psq.raised = [1]) ∧
    (psq .on []).psq.raised = [] := by
  decide +kernel

theorem witness_ModeClockAndReferenceCommandsAct :
    (up.mode = .standby ∧ (upWith [(SYS_MODE_CUR, 0)]).mode ≠ .standby) ∧
    (∀ x ∈ [mrAcq, mrPull, mrLocked], (upWith [(PTM_MREFSTAT_ST, x)]).get PTM_MREFSTAT_ST = x) := by
  decide +kernel

theorem witness_PageResetsAndCausesClear :
    (let s := chan0 (lane0 (upWith [(SYS_MODE_CUR, 0)]) (fun x => { x with st := .idle })) .active; s.present 0x40 = true ∧
      s.prstOk 0x40 = false) ∧
    (up.prstOk 0x40 = true ∧ (0x40 : Byte).toNat = pageLANE 0) ∧
    (∀ c ∈ [ChSt.hold, .safe, .active], (chan0 up c).running = true ∧ (chan0 up c).enabled 0 = true ∧ (chan0 up c).isLead 0 = true ∧
      ((chan0 up c).lane 0).chan.st = c) := by
  decide +kernel

theorem witness_LatchedReadsAndCoefficientAccess :
    ((up.wr 0xC08 0).running = true ∧ (up.wr 0xC08 0).flag ⟨0xC08, 0, 1⟩ = false ∧ (∀ n, n < 8 → (up.spare n).phase = 0) ∧
      up.csel = some 0 ∧ up.get CAL_CSEL_WORD = 0) ∧
    up.flag ⟨0xC08, 0, 1⟩ = true ∧
    ((spare0 up (fun x => { x with phase := 2 })).running = true ∧ ((spare0 up (fun x => { x with phase := 2 })).spare 0).phase = 2) ∧
    (up.enabled 63 = true ∧ up.isLead 63 = true ∧ up.present pageEIS = true) := by
  decide +kernel

theorem witness_RecipeAndEstimatorCommandsAct :
    ((upWith [(RCP_ESTAT_EPEND, 1)]).flag RCP_ESTAT_EPEND = true ∧ up.flag RCP_ESTAT_EPEND = false) ∧
    ((0x10000 : Word).getLsbD 16 = true ∧ (0x1FFF : Word).getLsbD 16 = false) ∧
    ((upWith [(LANE_ESTCFG_EN 63, 1)]).flag (LANE_ESTCFG_EN 63) = true ∧ (0x2710003F : Word).toNat % 64 = 63 ∧
      (0x2710003F : Word).toNat / 65536 ≤ 10000) ∧
    10000 < (0x27110000 : Word).toNat / 65536 ∧
    (upWith [(EST_WBSTAT_BUSY, 1)]).flag EST_WBSTAT_BUSY = true ∧
    (let s := coreOn (upWith [(REC_RSTAT_STOREOK, 1)]); s.running = true ∧ s.flag EST_WBSTAT_BUSY = false ∧ s.coreRuns = true ∧
      s.storeUsable = true) := by
  decide +kernel

theorem witness_HostFramesPostAndRead :
    (up.hostReady = true ∧ up.hif.queue.length + 1 ≤ 32 ∧ writable (wordAddr 0x78) = true ∧ hostReset (wordAddr 0x78) 7 = false) ∧
    (let s := upWith [(HIF_CFG_CRCEN, 1)]; s.hostReady = true ∧ s.flag HIF_CFG_CRCEN = true ∧
      frameCrc 0x02 0x78 [7] = (BitVec.ofNat 8 (frameCrc 0x02 0x78 [7])).toNat ∧
      frameCrc 0x12 0x78 [7] ≠ (BitVec.ofNat 8 (frameCrc 0x12 0x78 [7] + 1)).toNat) ∧
    ((upWith [(HIF_CFG_CRCEN, 0)]).flag HIF_CFG_CRCEN = false ∧ up.hostPending (wordAddr 0x78) = false ∧
      regionOf (wordAddr 0x40000) = .recipe ∧ up.hostPending (wordAddr 0x40000) = false ∧ readable (wordAddr 0xFFFFFC) = false) ∧
    ((0x04 : Byte).toNat ∉ [0, 0x02, 0x03, 0x12, 0x13] ∧ (0xFF : Byte).toNat ∉ [0, 0x02, 0x03, 0x12, 0x13]) ∧
    ({ up with hif := { Hif.reset with queue := [(0x078, 7)] } } : State).hostReady = true ∧
    (let s := { up with hif := { Hif.reset with resetting := true } }; s.psq.st ≠ .powerless ∧ s.running = true ∧ s.hostReady = false ∧
      s.mode ≠ .deepSleep) ∧
    (readable (wordAddr 0x478) = true ∧ wordAddr 0x478 ≠ 0x1030 ∧ up.hostPending (wordAddr 0x478) = false ∧
      ({ up with hif := { Hif.reset with queue := [(0x078, 7)] } } : State).hostPending 0x078 = true) := by
  decide +kernel

theorem witness_FeedControlWritesMoveTheFeed :
    (up.fst 1 = fsOff ∧ (upWith [(EFU_FSTAT_ST 1, 3)]).fst 1 ≠ fsOff) ∧
    (let s := upWith [(EFU_FSTAT_ST 1, 3), (EFU_FCTL_EN 1, 1)]; s.flag (EFU_FCTL_EN 1) = true ∧ s.fst 1 ≠ fsLatched ∧ s.fst 1 ≠ fsOff) ∧
    (let s := upWith [(EFU_FSTAT_ST 1, 7), (EFU_FCTL_EN 1, 1)]; s.flag (EFU_FCTL_EN 1) = true ∧ s.fst 1 = fsLatched) ∧
    ((feed1 up (fun x => { x with vin := 12000 })).inWindow 1 12000 = true ∧ up.inWindow 1 0 = false) := by
  decide +kernel

theorem witness_FeedsFollowTheirEvents :
    (∀ n, n < 8 → (feedAt n).alive = true ∧ (feedAt n).fst 1 = n) ∧
    ((feedAt 3).flag (EFU_FSTAT_BLK 1) = false ∧ (put (feedAt 3) [(EFU_FSTAT_BLK 1, 1)]).flag (EFU_FSTAT_BLK 1) = true ∧
      (put (feedAt 3) [(EFU_FSTAT_BLK 1, 1)]).fst 1 = 3) ∧
    (put (feedAt 5) [(EFU_FCTL_RTRYN 1, 15)]).get (EFU_FCTL_RTRYN 1) = 15 ∧
    (let s := put (feedAt 5) [(EFU_FCTL_RTRYN 1, 3), (EFU_FSTAT_RTRYCNT 1, 2)]; s.fst 1 = 5 ∧
      s.get (EFU_FSTAT_RTRYCNT 1) < s.get (EFU_FCTL_RTRYN 1)) ∧
    (let s := put (feedAt 5) [(EFU_FCTL_RTRYN 1, 3), (EFU_FSTAT_RTRYCNT 1, 3)]; s.fst 1 = 5 ∧ s.get (EFU_FCTL_RTRYN 1) ≠ 15 ∧
      s.get (EFU_FCTL_RTRYN 1) ≤ s.get (EFU_FSTAT_RTRYCNT 1)) ∧
    ((feedAt 6).inWindow 1 12000 = true ∧ (feedAt 6).inWindow 1 0 = false) ∧
    ((feedAt 0).gateOn 1 = false ∧ (feedAt 0).fst 1 ≠ 7) := by
  decide +kernel

theorem witness_FeedSamplesTripInOrder :
    ((feedAt 3).alive = true ∧ (feedAt 3).gateOn 1 = true ∧ (feedAt 3).get (EFU_FVWIN_OV 1) * 10 < 21001) ∧
    (¬(feedAt 2).get (EFU_FVWIN_OV 1) * 10 < 12000 ∧
      (feed1 (feedAt 2) (fun x => { x with soa := 10 ^ 18 })).soaBudget 1 ≤ ((feed1 (feedAt 2) (fun x => { x with soa := 10 ^ 18 })).feed 1).soa + (max 0 (0 * (feedAt 2).feedCurrent 1 0)).toNat) ∧
    (¬(feedAt 2).soaBudget 1 ≤ ((feedAt 2).feed 1).soa + (max 0 (0 * (feedAt 2).feedCurrent 1 0)).toNat) ∧
    ((feedAt 3).fst 1 = 3 ∧ (feedAt 3).flag (EFU_FSTAT_BLK 1) = false ∧ ((feedAt 3).get (EFU_FLIM_ILIM 1) : Int) * 50 ≤ (10 : Int) ^ 6 ∧
      0 < ((feedAt 3).get (EFU_FLIM_ILIM 1) : Int) * 50) ∧
    (∀ n ∈ [0, 1, 5, 6, 7], (feedAt n).alive = true ∧ (feedAt n).fst 1 = n ∧ (feedAt n).gateOn 1 = false) ∧
    (((feedAt 1).feed 1).ins = false ∧ (feedAt 1).inWindow 1 12000 = true) := by
  decide +kernel

theorem witness_CoreAndWatchdogWritesAct :
    ((upWith [(CORE_BOOTSTAT_STAGE, 3), (SYS_STRAP_BOOTSEL, 1)]).get CORE_BOOTSTAT_STAGE = 3 ∧
      (upWith [(SYS_STRAP_BOOTSEL, 1)]).get SYS_STRAP_BOOTSEL = 1 ∧ (upWith [(SYS_STRAP_BOOTSEL, 2)]).get SYS_STRAP_BOOTSEL = 2) ∧
    (up.running = true ∧ up.get CORE_BOOTSTAT_STAGE ≠ 3 ∧ up.flag WDG_CTL_LOCK = false) ∧
    ((wdogOn 1 9).running = true ∧ (wdogOn 1 9).wdg.on = true) ∧
    (upWith [(WDG_CTL_LOCK, 1)]).flag WDG_CTL_LOCK = true := by
  decide +kernel

theorem witness_CoreBootsAndTakesItsInterrupts :
    ((up.rd 0x160C).getLsbD 0 = false ∧ up.core.cold = true ∧ up.bootSel = 0) ∧
    ({ up with core := { CoreSt.reset with cold := false, userRan := true } } : State).core.cold = false ∧
    (let s := put (image up) [(CORE_BOOTSTAT_STAGE, 4)]; s.running = true ∧ s.get CORE_BOOTSTAT_STAGE = 4 ∧ s.imageCheck.1 = 0) ∧
    (let s := upWith [(CORE_BOOTSTAT_STAGE, 4)]; s.get CORE_BOOTSTAT_STAGE = 4 ∧ s.imageCheck.1 ≠ 0) ∧
    (let s := handler (put (coreOn up) [(CORE_MSIP_MSIP, 1)]); s.running = true ∧ s.coreRuns = true ∧ s.irqDue .msi = true ∧
      s.handlerOf (irqCause .msi) = some 0x100020 ∧ s.handlerOf (irqCause .mti) = none) ∧
    ((handler (coreOn up)).handlerOf ((2 : BitVec 4).setWidth 32) = some 0x100040 ∧
      (coreOn up).handlerOf ((2 : BitVec 4).setWidth 32) = none) ∧
    (((15 : Word).toNat < 16 ∧ inSram (0x13FFFF : Word).toNat = true) ∧ ¬((16 : Word).toNat < 16) ∧
      inSram (0x140000 : Word).toNat = false) ∧
    (let s := put (coreOn up) [(DBG_STAT_EN, 1)]; s.flag DBG_STAT_EN = true ∧ (s.rd 0x160C).getLsbD 0 = true ∧
      s.flag DBG_STAT_HALTED = !true) ∧
    (let s := put (coreOn up) [(DBG_STAT_EN, 1), (DBG_STAT_HALTED, 1)]; s.flag DBG_STAT_EN = true ∧ s.flag DBG_STAT_HALTED = !false) := by
  decide +kernel

theorem witness_WatchdogTakesServiceOrExpires :
    ((wdogOn 1 5).wdgLive = true ∧ (wdogOn 1 5).wdgHeld = false ∧ false = (wdogOn 1 5).shadow.wdiSrc ∧
      ((wdogOn 1 5).rd 0x160C).getLsbD 0 = true) ∧
    ((put (wdogOn 1 5) [(DBG_STAT_HALTED, 1)]).wdgHeld = true ∧ (wdogOn 1 5).frz pageWDG = false) ∧
    (wdogOn 1 9).get WDG_COUNT_C < (wdogOn 1 9).wdg.opens ∧
    ((wdogOn 1 25).wdg.opens ≤ (wdogOn 1 25).get WDG_COUNT_C ∧ (wdogOn 1 25).wdg.closes ≤ (wdogOn 1 25).get WDG_COUNT_C) ∧
    ((wdogOn 1 10).wdg.opens ≤ (wdogOn 1 10).get WDG_COUNT_C ∧ (wdogOn 1 19).get WDG_COUNT_C < (wdogOn 1 19).wdg.closes) ∧
    (wdogOn 1 10).wdg.tasks &&& (wdogOn 1 10).get WDG_LEDGER_LEDGER = (wdogOn 1 10).wdg.tasks ∧
    (wdogOn 0 10).wdg.tasks &&& (wdogOn 0 10).get WDG_LEDGER_LEDGER ≠ (wdogOn 0 10).wdg.tasks := by
  decide +kernel

theorem witness_DebugUnlockNeedsTheResponse :
    (up.running = true ∧ (0 : Word).getLsbD 1 = false ∧ up.dbg.holdEnd ≤ up.time.loc) ∧
    (held 1).time.loc < (held 1).dbg.holdEnd ∧
    ((nonced 0).shadow.key = some [1, 2, 3, 4] ∧ (nonced 0).dbg.nonce = true ∧ (nonced 0).shadow.life ≠ .scrap) ∧
    (up.dbg.nonce = false ∧ up.shadow.key = none) := by
  decide +kernel

theorem witness_StoreAccessRunsToItsReply :
    (up.flag REC_SSTAT_BUSY = false ∧ up.flag REC_RSTAT_ABSENT = false ∧ up.get REC_SADDR_ADDR < 0x1000) ∧
    ((upWith [(REC_RSTAT_ABSENT, 1)]).flag REC_RSTAT_ABSENT = true ∧ 0x1000 ≤ (upWith [(REC_SADDR_ADDR, 0x1000)]).get REC_SADDR_ADDR) ∧
    (∀ k ∈ [1, 2], ({ up with evr := { Evr.reset with acc := k } } : State).running = true) := by
  decide +kernel

theorem witness_ClearGoesThroughItsStates :
    (up.evr.holdEnd ≤ up.time.loc ∧ (held 1).running = true ∧ (held 1).time.loc < (held 1).evr.holdEnd) ∧
    (let s := upWith [(REC_CLRSTAT_STATE, 1), (REC_CLRSTAT_OWNER, Init.code .host)]; s.get REC_CLRSTAT_STATE = 1 ∧
      s.get REC_CLRSTAT_OWNER = Init.code .host ∧ s.get REC_CLRSTAT_OWNER ≠ Init.code .core) ∧
    up.get REC_CLRSTAT_STATE ≠ 1 ∧
    (let s := coreOn (upWith [(REC_CLRSTAT_STATE, 2)]); s.get REC_CLRSTAT_STATE = 2 ∧ s.coreRuns = true ∧ s.shadow.key = none) ∧
    (upWith [(REC_CLRSTAT_STATE, 2)]).coreRuns = false := by
  decide +kernel

theorem witness_RecorderMovesRecordsToTheStore :
    (let s := { upWith [(REC_RSTAT_STOREOK, 1)] with evr := { Evr.reset with up := true }, recLatches := [⟨0, 1, 0, 0, 0, 0, 0, [], 0, 0, 0, false, false, false⟩] };
      s.running = true ∧ s.mode ≠ .deepSleep ∧ s.recHeld = false ∧ s.recLatches ≠ [] ∧ s.flag REC_RSTAT_STOREOK = true ∧
      s.get REC_RSTAT_FILL < 256 ∧ s.evr.lostNew = 0) ∧
    (let s := { upWith [(REC_WSEQ_SEQ, 9)] with evr := { Evr.reset with up := true, due := true } }; s.canFlush = true ∧
      s.evr.due = true ∧ s.get REC_WSEQ_SEQ ≠ s.get REC_FSEQ_SEQ ∧ s.flag REC_RSTAT_STOREOK = false) ∧
    ((upWith [(REC_RSTAT_FILL, 192)]).get REC_RSTAT_FILL = 192 ∧ up.get REC_WSEQ_SEQ = up.get REC_FSEQ_SEQ) ∧
    (let s := { upWith [(REC_RSTAT_STOREOK, 1)] with evr := { Evr.reset with up := true, job := .record } }; s.running = true ∧
      s.evr.job = .record ∧ s.flag REC_RSTAT_STOREOK = true) ∧
    (up.running = true ∧ up.evr.up = false ∧ up.newestHeader = none) := by
  decide +kernel

theorem witness_ProgrammingIsRefusedOrBegun :
    (up.running = true ∧ up.otpc.op = 0 ∧ (0x5A : Byte) ≠ 0xA5 ∧ up.mode = .standby ∧ (upWith [(SYS_MODE_CUR, 0)]).mode ≠ .standby) ∧
    ({ up with otpc := { OtpCtl.reset with op := 1 } } : State).otpc.op ≠ 0 ∧
    (let s := upWith [(OTP_PGMADDR_WORD, 0x1D0)]; s.get OTP_PGMADDR_WORD ≠ 0x1DC ∧
      regionAllowed (otpRegion (s.get OTP_PGMADDR_WORD)) s.shadow.life = true ∧
      s.fuseBit 0x1DC (otpRegion (s.get OTP_PGMADDR_WORD)) = false) ∧
    (let s := upWith [(OTP_PGMADDR_WORD, 0x1DA)]; s.get OTP_PGMADDR_WORD ≠ 0x1DC ∧
      regionAllowed (otpRegion (s.get OTP_PGMADDR_WORD)) s.shadow.life = false) ∧
    (let s := fused (upWith [(OTP_PGMADDR_WORD, 0x1CF)]) 0x1DC 8;
      regionAllowed (otpRegion (s.get OTP_PGMADDR_WORD)) s.shadow.life = true ∧
      s.fuseBit 0x1DC (otpRegion (s.get OTP_PGMADDR_WORD)) = true) ∧
    (up.planFinalise 2).1 = 0 ∧
    (∀ x ∈ [Life.prod, .field], let s := { up with shadow := { up.shadow with life := x } }; s.running = true ∧
      s.fuseBit 0x1DC 5 = false ∧ s.shadow.life = x) := by
  decide +kernel

theorem witness_ProgrammingBlowsItsBits :
    (∀ k ∈ [1, 2, 3], let s := { up with otpc := { OtpCtl.reset with op := k, todo := [(0x1DA, 16)] } }; s.running = true ∧
      s.otpc.op ≠ 0 ∧ 0 < s.otpc.todo.length) ∧
    (let s := upWith [(OTP_RDSTAT_BUSY, 1), (OTP_RDADDR_WORD, 0x1D0)]; s.otpc.op = 0 ∧ s.flag OTP_RDSTAT_BUSY = true ∧
      s.fuseBit 0x1DC (8 + otpRegion (s.get OTP_RDADDR_WORD)) = false) ∧
    (let s := fused (upWith [(OTP_RDSTAT_BUSY, 1), (OTP_RDADDR_WORD, 0x1D0)]) 0x1DC 0x1000; otpRegion (s.get OTP_RDADDR_WORD) ≤ 4 ∧
      s.fuseBit 0x1DC (8 + otpRegion (s.get OTP_RDADDR_WORD)) = true) := by
  decide +kernel

theorem witness_PortEnableAndDisable :
    (let s := upWith [(⟨0x1408, 0, 1⟩, 0)]; s.flag ⟨0x1408, 0, 1⟩ = false ∧ s.lst 3 = 0) ∧
    (let s := upWith [(⟨0x1408, 0, 1⟩, 1), (ULK_STATE_ST 3, 6)]; s.running = true ∧ s.flag ⟨0x1408, 0, 1⟩ = true ∧ s.lst 3 ≠ 0) := by
  decide +kernel

theorem witness_PortsTrainAndGoDown :
    (∀ n, n < 7 → (port0At n).running = true ∧ (port0At n).alive = true ∧ (port0At n).lst 0 = n) ∧
    ((port0 (port0At 3) (fun x => { x with trained := true })).lst 0 = 3 ∧
      ((port0 (port0At 3) (fun x => { x with trained := true })).port 0).trained = true ∧ ((port0At 3).port 0).trained = false) ∧
    (lineClean ⟨0, 0, [⟨3, 1⟩]⟩ = true ∧ lineClean ⟨1, 0, []⟩ = false) ∧
    (((port0 (port0At 3) (fun x => { x with ts2Run := 7 })).port 0).ts2Run + 1 = 8 ∧
      ((port0 (port0At 2) (fun x => { x with tsRun := 7 })).port 0).tsRun + 1 = 8) ∧
    (((port0 (port0At 3) (fun x => { x with rxd := true })).port 0).rxd = true ∧ ((port0At 3).port 0).replay = [] ∧
      ((port0At 3).port 0).rxd = false) := by
  decide +kernel

theorem witness_LinkControlFramesAct :
    ((port0At 4).running = true ∧ (port0At 4).lst 0 = 4 ∧ lineClean ⟨0, 0, []⟩ = true ∧ lineClean ⟨0, 1, []⟩ = false) ∧
    ((port0 (port0At 4) (fun x => { x with replay := [(255, blankPacket)] })).port 0).replay ≠ [] ∧
    (((port0 (port0At 4) (fun x => { x with nakOut := true, ackCnt := 1 })).port 0).nakOut = true ∧
      0 < ((port0 (port0At 4) (fun x => { x with ackCnt := 1 })).port 0).ackCnt) := by
  decide +kernel

theorem witness_PacketsAreSentInOrder :
    (let s := (port0At 4); s.running = true ∧ (∀ o ∈ s.outbox, (s.leaves o).2 = false) ∧ s.txRoom 0 = false ∧
      takeFirst (fun o => (s.leaves o).1 == some 0) s.outbox = none) ∧
    (let s := sending (put (port0At 4) [(ULK_STATE_CREDIT 0, 64), (ULK_SEQ_ACKED 0, 255)]) 0 false; (∀ o ∈ s.outbox,
      (s.leaves o).2 = false) ∧ s.lst 0 = 4 ∧ s.txRoom 0 = true ∧ (s.port 0).chars ≤ 1024 ∧
      takeFirst (fun o => (s.leaves o).1 == some 0) s.outbox = some (⟨blankPacket, 0, none⟩, [])) ∧
    (let s := sending (put (port0At 4) [(ULK_STATE_CREDIT 0, 64), (ULK_SEQ_ACKED 0, 255), (ULK_CFG_WRAPEN 1, 1)]) 1 false;
      (∀ o ∈ s.outbox, (s.leaves o).2 = false) ∧ s.txRoom 0 = true ∧
      takeFirst (fun o => (s.leaves o).1 == some 0) s.outbox = some (⟨blankPacket, 1, none⟩, [])) ∧
    (let s := sending (put (port0At 4) [(ULK_CFG_WRAPEN 1, 1)]) 1 true; ∃ o ∈ s.outbox, (s.leaves o).2 = true ∧ o.port < 4) ∧
    (let s := sending up 0 false;
      takeFirst (fun o => o.port == 0 && (s.leaves o).1.isNone && !(s.leaves o).2) s.outbox = some (⟨blankPacket, 0, none⟩, [])) ∧
    takeFirst (fun o => o.port == 0 && (up.leaves o).1.isNone && !(up.leaves o).2) up.outbox = none := by
  decide +kernel

theorem witness_ReceiverAcceptsInSequence :
    (let s := port0At 4; s.running = true ∧ s.lst 0 = 4 ∧ (0 + 256 - s.get (ULK_SEQ_EXPECT 0)) % 256 = 0 ∧ 0 < s.credit 0) ∧
    txnBad blankPacket = true ∨ txnBad { blankPacket with typ := 1, dlen := 1 } = true ∧
    (txnBad { blankPacket with typ := 1 } = false ∧ txnBad { blankPacket with typ := 1, hopAddr := true, ttl := 0 } = false ∧
      txnBad { blankPacket with typ := 1, hopAddr := true, ttl := 1 } = false ∧
      txnBad { blankPacket with typ := 1, hopAddr := true, ttl := 2 } = false) ∧
    txnBad { blankPacket with typ := 7, dlen := 8, data := [1, 0, 0, 0, 0, 0, 0, 0] } = false ∧
    ({ port0At 4 with link := { LinkCfg.reset with assigned := true } } : State).forMe { blankPacket with typ := 1, w1 := BitVec.ofNat 32 LinkCfg.reset.addr } = true ∧
    (let s := { port0At 4 with rxq := (List.range 64).map (fun k => ⟨0, k, 0, blankPacket⟩) }; s.lst 0 = 4 ∧ s.credit 0 = 0) ∧
    (let s := put (port0At 4) [(ULK_SEQ_EXPECT 0, 128)]; 128 ≤ ((0 : Byte).toNat + 256 - s.get (ULK_SEQ_EXPECT 0)) % 256 ∧
      ((255 : Byte).toNat + 256 - s.get (ULK_SEQ_EXPECT 0)) % 256 = 127) := by
  decide +kernel

theorem witness_RequestsAreServedAndAnswered :
    (∀ k ∈ [1, 2, 3, 4, 5, 6, 9], let s := received { blankPacket with typ := k, data := [7] }; s.running = true ∧
      takeFirst (fun y => y.port == 0) s.rxq = some (⟨0, 0, 0, { blankPacket with typ := k, data := [7] }⟩, []) ∧
      (s.rxq.head?.map (fun y => y.port)) = some 0) ∧
    (readable (wordAddr 0x40000) = true ∧ 0x10000 ≤ wordAddr 0x40000 ∧ regionOf (wordAddr 0x40000) = .recipe ∧
      writable (wordAddr 0xFFFFFC) = false) ∧
    (let s := received { blankPacket with typ := 4 };
      (({ s with rxq := ⟨1, 0, 0, blankPacket⟩ :: s.rxq } : State).rxq.head?.map (fun y => y.port)) ≠ some 0) ∧
    (addrZone (blankPacket.src.toNat % 2 ^ 18) = addrZone (received blankPacket).link.addr ∧
      addrShelf (blankPacket.src.toNat % 2 ^ 18) = addrShelf (received blankPacket).link.addr) := by
  decide +kernel

theorem witness_CompletionsAndTimeoutsEndRequests :
    (let s := received { blankPacket with rsp := true, tag := 5 }; s.running = true ∧
      takeFirst (fun (u : TagUse) => u.tag == 5) (s.port 0).tags = none) ∧
    (let s := waiting { blankPacket with rsp := true, tag := 5 } false;
      takeFirst (fun (u : TagUse) => u.tag == 5) (s.port 0).tags = some (⟨5, false⟩, []) ∧ s.core.wait = some ⟨1, 0, 5, 0x100000⟩) ∧
    (let s := waiting { blankPacket with rsp := true, tag := 5 } true;
      takeFirst (fun (u : TagUse) => u.tag == 5) (s.port 0).tags = some (⟨5, true⟩, []) ∧ s.link.walk = some ⟨false, 1, [], none⟩) := by
  decide +kernel

theorem witness_SupervisorServicesReturn :
    ((coreOn up).svcRuns = true ∧ (coreOn up).core.wait = none ∧ (waiting blankPacket false).core.wait.isSome = true ∧
      (waiting blankPacket false).svcRuns = true) ∧
    (svcArgsOk ⟨0xFFFFF, 0xFFFFFF, 64, 0x13FF00, 0, false⟩ = true ∧ svcArgsOk ⟨0x100000, 0, 1, 0x100000, 0, false⟩ = false) ∧
    ((coreOn up).svcPort ((coreOn up).svcPacket ⟨0, 0, 1, 0x100000, 1, false⟩ 1) = some 1 ∧ (coreOn up).freeTag 1 = some 0) ∧
    (let s := { coreOn up with ports := up.ports.setIfInBounds 1 { Port.reset with tags := (List.range 128).map (fun k => ⟨k, false⟩) } };
      s.svcRuns = true ∧ s.freeTag ((s.leaves ⟨s.svcPacket ⟨0, 0, 1, 0x100000, 1, false⟩ 1, 1, none⟩).1.getD 1) = none) ∧
    ∃ d ∈ [0, 2 ^ 18, 2 ^ 19, 2 ^ 19 + 2 ^ 18],
      ({ coreOn up with link := { LinkCfg.reset with shead := true } } : State).svcPort { blankPacket with w1 := BitVec.ofNat 32 d } = none ∧
    ((0x3FC : Word).toNat % 4 = 0 ∧ (0x3FC : Word).toNat < 0x400 ∧ (0x18 : Word).toNat ≤ 0x18 ∧ ¬((0x1C : Word).toNat ≤ 0x18 ∨
      (0x200 ≤ (0x1C : Word).toNat ∧ (0x1C : Word).toNat ≤ 0x3FC))) ∧
    ((coreOn up).link.walk = none ∧ (1 : Word).toNat < 2 ∧ 2 ≤ (2 : Word).toNat ∧ (waiting blankPacket true).link.walk.isSome = true) := by
  decide +kernel

theorem witness_LinkTableComesIntoForce :
    ((coreOn up).running = true ∧ (coreOn up).coreRuns = true ∧ up.coreRuns = false) ∧
    (let s := placed (fun l => { l with addr := 0 }); s.coreRuns = true ∧ s.link.assigned = true ∧ s.link.roleDone = false ∧
      s.link.foreignApply = false ∧ s.link.asgAt + 3000000000 ≤ s.time.loc ∧ addrDev s.link.addr = 0 ∧ s.link.headOk = false ∧
      addrShelf s.link.addr = 0 ∧ s.link.ksOk = false) ∧
    (let s := placed (fun l => { l with addr := 1 }); s.coreRuns = true ∧ s.link.asgAt + 3000000000 ≤ s.time.loc ∧
      addrDev s.link.addr ≠ 0) ∧
    (let s := placed (fun l => { l with shead := true, keyst := true }); s.running = true ∧ s.link.shead = true ∧ s.link.keyst = true) ∧
    (up.link.shead = false ∧ up.link.assigned = false) := by
  decide +kernel

theorem witness_SummariesAndWalksRun :
    (let s := placed (fun l => { l with shead := true, keyst := true }); s.running = true ∧ s.link.assigned = true ∧
      s.frame % 1000 = 0 ∧ s.link.shead = true) ∧
    (let s := placed (fun l => { l with hpos := 1 }); s.link.assigned = true ∧ s.frame % 1000 = 0 ∧ s.link.shead = false ∧
      (s.route (s.link.addr / 64 * 64 % 2 ^ 20)).isSome = true) ∧
    (let s := { placed (fun l => { l with shead := true, keyst := true }) with time := ⟨5000000, 0, 0⟩ }; s.running = true ∧
      s.link.shead = true ∧ s.frame % 1000 = 500) ∧
    (let s := { placed (fun l => { l with shead := true, ksOk := true }) with time := ⟨5000000, 0, 0⟩ }; s.link.shead = true ∧
      s.frame % 1000 = 500 ∧ s.link.keyst = false ∧ s.link.ksOk = true) ∧
    ((placed (fun l => { l with shead := true })).coreRuns = true ∧ (placed (fun l => l)).link.walk = none) ∧
    (∀ e ∈ [some true, some false, none], let s := placed (fun l => { l with walk := some ⟨true, 3, [1, 2], e⟩ }); s.running = true ∧
      s.coreRuns = true ∧ s.link.walk = some ⟨true, 3, [1, 2], e⟩) := by
  decide +kernel

theorem witness_PlantTimeCommandsAct :
    (∀ n, n < 6 → (put up [(PTM_STAT_ST, n)]).running = true ∧ (put up [(PTM_STAT_ST, n)]).ptSt = n) ∧
    ((put up [(PTM_STEPK_K, 2 ^ 31)]).getI PTM_STEPK_K ≠ 0 ∧ up.getI PTM_STEPK_K = 0) ∧
    (let s := acting up [(PTM_BRTL_T, 1)]; 0 < s.ptIn PTM_BRTL_T + s.ptIn PTM_BRTH_T * 2 ^ 32 ∧ s.ptm.bars.length < 16) ∧
    (let s := acting { up with ptm := { Ptm.reset with bars := List.replicate 16 ⟨0, 1, 0, false⟩ } } [(PTM_BRTH_T, 1)];
      0 < s.ptIn PTM_BRTL_T + s.ptIn PTM_BRTH_T * 2 ^ 32 ∧ 16 ≤ s.ptm.bars.length) := by
  decide +kernel

theorem witness_PlantTimeMessagesAct :
    (let s := received (sync 1 2); s.running = true ∧ takeFirst (fun y => y.port == 0) s.rxq = some (⟨0, 0, 0, sync 1 2⟩, []) ∧
      timesync 1 (sync 1 2) = true) ∧
    (timesync 2 (sync 2 5) = true ∧ bitsOf ((sync 2 5).data.getD 0 0).toNat 16 3 = 5 ∧ stampOf (sync 2 5).data 1 0 = 0 ∧
      stampOf (sync 2 5).data 3 1 = 0 ∧ stampOf (sync 2 5).data 5 2 = 0) ∧
    (let s := { received (sync 2 5) with ptm := { Ptm.reset with req := some (0, 0) }, time := ⟨1000000, 0, 1000000⟩ };
      s.ptm.req = some (0, 0) ∧ s.time.loc ≤ 0 + 1000000 ∧ bitsOf ((sync 2 5).data.getD 0 0).toNat 8 8 = s.ptm.seqn) ∧
    up.ptm.req = none ∧
    (request 8 { blankPacket with typ := 8, mc := true, dlen := 4, data := [1, 1, 0, 0] } = true ∧
      (List.replicate 16 (⟨0, 1, 0, false⟩ : Bar)).length = 16) := by
  decide +kernel

theorem witness_PlantTimeTimersAct :
    (let s := { port0At 4 with link := { LinkCfg.reset with smem := 4, hpos := 1 } }; s.running = true ∧ s.ptParent.isSome = true) ∧
    (put up [(PTM_STAT_ST, 5)]).ptParent = none ∧
    (let s := { put up [(PTM_STAT_ST, 2)] with time := ⟨10 ^ 12, 0, 10 ^ 12⟩ }; s.ptSt = 2 ∧
      s.ptm.since + max 1 (s.ptIn PTM_CFG_SYNCLOSS) * s.syncPer * 100000 ≤ s.time.loc) ∧
    (up.ptSt = 0 ∧ up.ptm.step = none ∧
      ({ up with ptm := { Ptm.reset with step := some (.by_ (-1)) } } : State).ptm.step = some (.by_ (-1))) ∧
    (let s := { up with time := ⟨10000, 0, 1000⟩, ptm := { Ptm.reset with bars := [⟨7, 0, 0, true⟩] } }; s.running = true ∧
      s.flag CLK_STAT_RELOCKING = false ∧ s.clk.due = false ∧ s.time.cyc < 2000 ∧ (let b := s.toBoundary.ptStepNow;
      (s.ptm.bars.filter (fun x => barDue x b.time.loc b.frame)).getLast? = some ⟨7, 0, 0, true⟩)) ∧
    (up.ptm.bars = [] ∧ up.link.keyst = false) ∧
    (let s := { placed (fun l => { l with keyst := true }) with ptm := { Ptm.reset with acting := Ptm.reset.acting.setIfInBounds 7 ⟨0x40001, 10 ^ 7, 0, 0, 0⟩ }, time := ⟨10 ^ 7 - 10000 * up.barLead, 0, 0⟩ };
      s.link.keyst = true ∧ schedDue (s.ptm.acting.toList.getD 7 Sched.reset) s.barLead s.frame = some (0, 10 ^ 7) ∧
      schedDue (s.ptm.acting.toList.getD 0 Sched.reset) s.barLead s.frame = none) ∧
    (let s := { upWith [(CLK_STAT_RELOCKING, 1)] with ptm := { Ptm.reset with step := some (.to 0) } }; s.running = true ∧
      s.flag CLK_STAT_RELOCKING = true) := by
  decide +kernel

theorem witness_PowerSequenceAdvances :
    (let s := { upWith [(SUP_GOOD_GOOD, 8)] with psq := { Psq.reset with st := .intUp } }; s.psq.st = .intUp ∧
      bit (s.get SUP_GOOD_GOOD) (internalSlot s.psq.step) = true) ∧
    (let s := { up with psq := { Psq.reset with st := .intUp, step := 4 } }; s.psq.st = .intUp ∧
      bit (s.get SUP_GOOD_GOOD) (internalSlot s.psq.step) = false) ∧
    (∀ c ∈ [SeqState.intDown, .up, .down, .faildown, .minoff], (psq c [7]).psq.st = c ∧ (psq c [7]).psq.raised = [7] ∧
      (psq c []).psq.raised = [] ∧ (psq c []).psq.gaspDone = false ∧ (psq c []).psq.pendOn = false) ∧
    bit ((psq .up [1]).railCfg (8 + (psq .up [1]).psq.order.getD 0 0)) 31 = false ∧
    (let s := { up with psq := { Psq.reset with st := .up, order := [0], railcfg := [0x80000000], raised := [0] } };
      bit (s.railCfg 8) 31 = true ∧ bit (s.get SUP_GOOD_GOOD) 8 = false) ∧
    (({ up with psq := { Psq.reset with st := .minoff, pendOn := true } } : State).psq.pendOn = true ∧ (∀ k,
      k < 8 → up.orderList.count k ≤ 1)) ∧
    2 ≤ ({ upWith [(PSQ_ORDER_SLOT, 9), (PSQ_ORDER_N, 2)] with psq := { Psq.reset with st := .minoff, pendOn := true } } : State).orderList.count 1 ∧
    (let s := { port0At 4 with psq := { Psq.reset with st := .intDown } }; s.psq.st = .intDown ∧ s.lst 0 ≠ 0) := by
  decide +kernel

theorem witness_SupervisorClassifiesItsSamples :
    ((psq .powerless []).psq.st = .powerless ∧ up.psq.st ≠ .powerless ∧ up.psq.scan % 16 = 0 ∧ bitsOf (up.railCfg 15) 31 1 = 0) ∧
    (∀ uv ∈ [35400, 86670], let s := railed 0 0; let c := railCode 15 uv; bitsOf (s.railCfg 15) 31 1 = 1 ∧ s.psq.scan % 16 = 15 ∧
      bitsOf (s.railCfg 15) 0 12 + s.get SUP_HYS_HYS ≤ c ∧ c + s.get SUP_HYS_HYS ≤ bitsOf (s.railCfg 15) 12 12 ∧
      bit (s.get SUP_GOOD_GOOD) 15 = false) ∧
    (let s := railed 0x8000 0; railCode 15 0 < bitsOf (s.railCfg 15) 0 12 ∧ bit (s.get SUP_GOOD_GOOD) 15 = true ∧
      (s.rail 15).lowRun + 1 < max 1 (bitsOf (s.railCfg 15) 24 4)) ∧
    (let s := railed 0x8000 1; railCode 15 0 < bitsOf (s.railCfg 15) 0 12 ∧ bit (s.get SUP_GOOD_GOOD) 15 = true ∧
      max 1 (bitsOf (s.railCfg 15) 24 4) ≤ (s.rail 15).lowRun + 1 ∧ bitsOf (s.railCfg 15) 28 2 = 0 ∧ 7 ≤ s.psq.scan % 16) ∧
    ((1 : BitVec 5).getLsbD 0 = true ∧ up.get PSQ_HKSTAT_HK0_ILIM = 0) := by
  decide +kernel

theorem witness_PowerLossReleasesTheOutputs :
    ((psq .powerless []).psq.st = .powerless ∧ up.psq.st ≠ .powerless ∧ up.psq.st ≠ .lastgasp) ∧
    ((psq .lastgasp []).psq.st = .lastgasp ∧ (psq .lastgasp []).psq.gaspDone = false ∧ (psq .lastgasp []).rst.afterGasp = false ∧
      (psq .lastgasp []).psq.raised = []) ∧
    (let s := { up with psq := { Psq.reset with st := .lastgasp, vinOk := false }, evr := { Evr.reset with gasp := some ⟨0xFF, 4, 0, 0, 0, 0, 0, [], 0, 0, 0, false, false, false⟩ } };
      s.psq.vinOk = false ∧ s.evr.gasp.isSome = true) ∧
    (let s := { psq .lastgasp [3] with rst := { Rst.reset with inReset := false, afterGasp := true } }; s.psq.st = .lastgasp ∧
      s.psq.gaspDone = false ∧ s.rst.afterGasp = true) ∧
    (0 ∈ (chan0 up .active).leads ∧ ((chan0 up .active).lane 0).chan.st ≠ .safe ∧ 0 ∈ (chan0 up .active).members 0) := by
  decide +kernel

theorem witness_ClockMonitorHoldoverAndRelock :
    (up.running = true ∧ up.flag CLK_STAT_HOLDOVER = false ∧ up.clk.refBad = 0) ∧
    ((∀ r ∈ [59, 69], 59 ≤ (BitVec.ofNat 8 r).toNat ∧ (BitVec.ofNat 8 r).toNat ≤ 69) ∧ ¬59 ≤ (58 : BitVec 8).toNat ∧
      ¬(70 : BitVec 8).toNat ≤ 69 ∧ (482 : BitVec 12).toNat = 482 ∧ ¬482 ≤ (481 : BitVec 12).toNat ∧ ¬(543 : BitVec 12).toNat ≤ 542) ∧
    (let s := { up with clk := { Clk.reset with pllOn := true, refBad := 1, sysBad := 1 } }; s.running = true ∧ s.clk.refBad = 1 ∧
      s.clk.sysBad = 1) ∧
    (let s := upWith [(CLK_STAT_HOLDOVER, 1), (CLK_STAT_RELOCKING, 1)]; s.running = true ∧ s.flag CLK_STAT_HOLDOVER = true ∧
      s.flag CLK_STAT_RELOCKING = true) ∧
    (let s := { upWith [(SYS_MODE_CUR, 2), (SYS_WAKEEN_EN, 0x401), (RTC_CFG_ALMWK, 1), (RTC_PLSTAT_ALMF, 1)] with rst := { Rst.reset with inReset := false, wake := 0x400 } };
      s.alive = true ∧ s.psq.st ≠ .lastgasp ∧ s.mode = .deepSleep ∧ ∀ k ∈ [0, 10], (s.get SYS_WAKEEN_EN).testBit k = true ∧
      s.wakeActive k = true) ∧
    (up.mode ≠ .deepSleep ∧ (upWith [(RTC_PLSTAT_ALMF, 1)]).wakeActive 0 = false) := by
  decide +kernel

theorem witness_ResetPinAndReleaseAct :
    (State.reset.psq.st = .off ∧ State.reset.rst.inReset = true ∧
      ({ State.reset with clk := { Clk.reset with waitPll := true } } : State).clk.waitPll = true) ∧
    ((psq .lastgasp []).psq.st = .lastgasp ∧ (psq .lastgasp []).psq.gaspDone = false) ∧
    (∀ c ∈ [SeqState.intDown, .intLatched, .powerless, .intUp], (psq c []).psq.st = c) ∧
    (({ psq .lastgasp [] with psq := { Psq.reset with st := .lastgasp, gaspDone := true } } : State).psq.gaspDone = true ∧
      Psq.reset.vinOk = true ∧ ({ psq .intLatched [] with rst := { Rst.reset with pinLow := true } } : State).rst.pinLow = true) := by
  decide +kernel

theorem witness_FramesAndReferenceAdvance :
    (up.running = true ∧ up.flag CLK_STAT_RELOCKING = false ∧ up.time.cyc < 2000 ∧ up.ptm.step = none ∧ up.clk.due = false ∧
      ({ up with clk := { up.clk with due := true } } : State).clk.due = true) ∧
    (let s := { up with clk := { up.clk with open_ := true } }; s.running = true ∧ s.clk.open_ = true ∧ s.time.cyc ≤ 1000 ∧
      1000 < ({ s with time := ⟨5005, 1001, 5005⟩ } : State).time.cyc ∧ up.clk.open_ = false) ∧
    (0 ∈ up.leads ∧ (up.lane 0).chan.st = .safe ∧ Mref.reset.stamp = none) ∧
    (let s := stamped 0; s.running = true ∧ s.mref.stamp = some 0 ∧ s.get PTM_MREFSTAT_ST = mrLocked ∧
      64000 < (s.tapsNow + (57601 : Nat) - 0).toNat ∧ (6400 ≤ (s.tapsNow + (0 : Nat) - 0).toNat ∧
      (s.tapsNow + (57600 : Nat) - 0).toNat ≤ 64000) ∧ s.mref.lastInt ≠ 0) ∧
    (let s := stamped 1; s.mref.stamp = some 1 ∧ (s.tapsNow + (0 : Nat) - 1).toNat < 6400) ∧
    (∀ x ∈ [mrLocked, mrPull], (upWith [(PTM_MREFSTAT_ST, x)]).running = true ∧ (upWith [(PTM_MREFSTAT_ST, x)]).get PTM_MREFSTAT_ST = x) := by
  decide +kernel

theorem witness_ChannelsStopAndTimersAct :
    (let s := chan0 (lane0 (upWith [(LANE_CONTACT_CLEN 0, 1)]) (fun x => { x with modu := { x.modu with iso := true } })) .active;
      s.running = true ∧ s.contactArmed 0 = true ∧ s.contactBoth 0 0 0 = false ∧ s.contactBoth 0 (10 ^ 7) 0 = true ∧
      (s.lane 0).health.clCyc + 39 < 40 ∧ 40 ≤ (s.lane 0).health.clCyc + 40) ∧
    (up.contactArmed 0 = false ∧ up.alive = true ∧ up.psq.st ≠ .lastgasp) ∧
    (0 ∈ (chan0 up .active).leads ∧ ((chan0 up .active).lane 0).chan.st ≠ .safe ∧ bankOf 0 = 0) ∧
    (∀ c ∈ [ChSt.closing, .hold, .safe], ((chan0 up c).lane 0).chan.st = c) ∧
    ((eng0 (chan0 up .hold) (fun e => { e with st := .run })).lane 0).eng.st.running = true ∧
    (up.mode ≠ .deepSleep ∧ up.enabled (8 * 7) = true) ∧
    (∀ x ∈ [0, 3], let s := upWith [(LANE_MCTL_RANGE 0, x), (LANE_MSTAT_RNG 0, 1)]; s.get (LANE_MCTL_RANGE 0) = x ∧
      s.get (LANE_MSTAT_RNG 0) = 1) ∧
    (∀ x ∈ [1, 2], (upWith [(LANE_MCTL_RANGE 0, x)]).get (LANE_MCTL_RANGE 0) = x) := by
  decide +kernel

theorem witness_ModulatorFollowsItsTriggers :
    (∀ c ∈ [LaneSt.switching, .brake], (switching c false false).triggerable 0 = true ∧
      ((switching c false false).lane 0).modu.grDis = false ∧ ((switching c false false).lane 0).modu.withheld = false) ∧
    ((switching .brake true false).triggerable 0 = true ∧ ((switching .brake true false).lane 0).modu.grDis = true) ∧
    (let s := lane0 (switching .switching false false) (fun x => { x with modu := { x.modu with withheld := true, swPrev := true, share := 10 ^ 14 } });
      s.triggerable 0 = true ∧ (s.lane 0).modu.withheld = true ∧ (s.lane 0).modu.grDis = false ∧
      (chan0 s .active).phaseChecked 0 = true) ∧
    (up.triggerable 0 = false ∧ (256 < lockDelay (.late 257) ∧ lockDelay .clear = 0)) ∧
    (let s := switching .switching false true; s.running = true ∧ (s.lane 0).modu.onTime = true ∧ (s.lane 0).st = .switching ∧
      s.bankPaused 0 = false ∧ (s.lane 0).modu.cycDis = false) ∧
    (let s := lane0 (switching .switching true true) (fun x => { x with modu := { x.modu with cycDis := true } });
      (s.lane 0).modu.onTime = true ∧ (s.lane 0).st = .switching ∧ s.bankPaused 0 = false ∧ (s.lane 0).modu.cycDis = true ∧
      (s.lane 0).modu.withheld = false) ∧
    (((switching .brake false true).lane 0).modu.onTime = true ∧ ((switching .brake false true).lane 0).st ≠ .switching ∧
      (up.lane 0).modu.onTime = false) ∧
    (let s := lane0 up (fun x => { x with st := .switching, meas := { x.meas with iS := 10 ^ 6 } }); s.overShare 0 = true ∧
      (s.lane 0).st = .switching) ∧
    (let s := chan0 (lane0 up (fun x => { x with st := .switching, modu := { x.modu with active := true, swPrev := true, share := 10 ^ 14 } })) .active;
      s.overShare 0 = false ∧ s.phaseChecked 0 = true) ∧
    (lane0 up (fun x => { x with modu := { x.modu with pre := true } })).running = true := by
  decide +kernel

theorem witness_RegulatingStepsTakeTheirTargets :
    (∀ p ∈ [(1, []), (2, [500]), (3, [500]), (4, [500, 100]), (5, [500]), (6, [500]), (7 + 0xC0, [500, 100, 0, 2]), (8, [5, 6, 0, 0x10001]), (9 + 0x40, [0, 0x30000, 0, 1000]), (10, []), (13, []), (15, [])],
      let s := programmed [(0, p.1 :: p.2), (2, [0x1FFF00]), (3, [0x1FFF20, 20, 1, 0, 0, 0, 1])]; s.running = true ∧
      s.enabled 0 = true ∧ s.isLead 0 = true ∧ (s.eng 0).st = .run ∧ (s.eng 0).hostCm = [] ∧ recTyp (s.record 0) = p.1.toNat % 16 ∧
      isTable (s.record 0) = false ∧ s.badRecord 0 0 (s.record 0) = 0) ∧
    (chgNimh ((programmed [(0, [0xC7, 500, 100])]).record 0) = false ∧ up.shadow.nimh = true ∧ up.shadow.eis = true) := by
  decide +kernel

theorem witness_ControlStepsGoOn :
    (let s := programmed []; recTyp (s.record 0) = 0 ∧ isTable (s.record 0) = false ∧ s.flag (LANE_RSTAT_INFH 0) = false ∧
      s.badRecord 0 0 (s.record 0) = 0 ∧ ((s.lane 0).chan.st = .active)) ∧
    (let s := programmed [(8191, [0x1FFF00])]; isTable (s.record 8191) = true ∧ s.badRecord 0 8191 (s.record 8191) = 0) ∧
    (let s := programmed [(0, [1]), (1, [11, 2]), (2, [1])]; recTyp (s.record 1) = 11 ∧ s.badRecord 0 1 (s.record 1) = 0 ∧
      loopStep 1 (recJump (s.record 1)) (bitsOf (recW (s.record 1) 1) 0 16) [] = some ([⟨1, 0, 1⟩], 0) ∧ recTyp (s.record 0) = 1 ∧
      isTable (s.record 0) = false ∧ s.badRecord 0 0 (s.record 0) = 0) ∧
    (let s := eng0 (programmed [(5, [11, 2])]) (fun e => { e with loops := [⟨8, 0, 1⟩, ⟨8, 0, 1⟩, ⟨8, 0, 1⟩, ⟨8, 0, 1⟩] });
      recTyp (s.record 5) = 11 ∧ s.badRecord 0 5 (s.record 5) = 0 ∧
      loopStep 5 (recJump (s.record 5)) (bitsOf (recW (s.record 5) 1) 0 16) (popLoops 5 (s.eng 0).loops) = none) ∧
    (∀ x ∈ [12, 14], let s := programmed [(0, [1]), (5, [BitVec.ofNat 32 x]), (6, [1])]; recTyp (s.record 5) = x ∧
      recJump (s.record 5) = 0 ∧ s.badRecord 0 5 (s.record 5) = 0 ∧ recTyp (s.record 6) = 1 ∧ isTable (s.record 6) = false ∧
      s.badRecord 0 6 (s.record 6) = 0) := by
  decide +kernel

theorem witness_EngineCommandsAct :
    (let s := chan0 up .closing; s.running = true ∧ s.enabled 0 = true ∧ s.isLead 0 = true ∧ (s.eng 0).forced = 0 ∧
      (s.eng 0).abort = 0 ∧ (s.eng 0).st.running = false ∧ bit (s.rd 0x1808).toNat 0 = true ∧ (s.lane 0).chan.st = .closing) ∧
    (let s := startable; (s.lane 0).chan.st = .safe ∧ s.startRefusal 0 = 0) ∧
    (bit ((up.wr 0x1808 0).rd 0x1808).toNat 0 = false ∧ (up.eng 0).next = none ∧ ((chan0 up .hold).lane 0).chan.st = .hold) ∧
    (∀ c ∈ [ESt.run, .barrier, .paused], let s := eng0 (programmed [(0, [1])]) (fun e => { e with st := c }); (s.eng 0).st = c ∧
      (s.eng 0).st.running = true ∧ (s.eng 0).next = none ∧ s.flag (LANE_RCFG_PAUSEMODE 0) = false ∧ (s.eng 0).prev = .run ∧
      (s.lane 0).chan.st = .active) ∧
    (let s := programmed [(0, [1]), (1, [1])]; s.normalNext 0 = 1 ∧ recTyp (s.record 1) = 1 ∧ isTable (s.record 1) = false ∧
      s.badRecord 0 1 (s.record 1) = 0 ∧ recTyp (s.record (s.get (LANE_RCTL_ENTRY 0))) = 1 ∧
      s.badRecord 0 (s.get (LANE_RCTL_ENTRY 0)) (s.record (s.get (LANE_RCTL_ENTRY 0))) = 0) ∧
    (∀ c ∈ [ESt.idle, .ended, .faulted, .aborted], ((eng0 up (fun e => { e with st := c })).eng 0).st = c) := by
  decide +kernel

theorem witness_StepTimersLeaveTheStep :
    (let s := inRec [2, 0, 0, 1] (fun x => x); s.inStep 0 = true ∧ quiet0 s = true ∧ recTimer (s.eng 0).recd ≠ 0 ∧
      recTfault (s.eng 0).recd = false ∧ recTyp (s.eng 0).recd = 2 ∧ s.normalNext 0 = 1 ∧ recTyp (s.record 1) = 1 ∧
      isTable (s.record 1) = false ∧ s.badRecord 0 1 (s.record 1) = 0) ∧
    (let s := inRec [2, 0, 0, 0x10000001] (fun x => x); s.inStep 0 = true ∧ quiet0 s = true ∧ recTimer (s.eng 0).recd ≠ 0 ∧
      recTfault (s.eng 0).recd = true ∧ s.flag (LANE_RSTAT_INFH 0) = false ∧ s.flag (LANE_RCFG_FHEN 0) = false) ∧
    (let s := inRec [2] (fun x => x); s.inStep 0 = true ∧ quiet0 s = true ∧ recTimer (s.eng 0).recd = 0) ∧
    (let s := inRec [0x87] (fun x => { x with chg := { x.chg with phase := .cc, zone := .normal, prof := [0, 0, 0, 0, 0, 0, 1, 0] } });
      s.inStep 0 = true ∧ quiet0 s = true ∧ steady0 s = true ∧ recTyp (s.eng 0).recd = 7 ∧
      0 < phaseLimit (s.chg 0).prof (s.chg 0).phase) ∧
    (let s := inRec [8, 5, 6] (fun x => x); s.inStep 0 = true ∧ quiet0 s = true ∧ recTyp (s.eng 0).recd = 8 ∧ (s.eng 0).st = .run ∧
      (s.eng 0).held = [] ∧ recTimer (s.eng 0).recd = 0) ∧
    (∀ v ∈ [7, 8],
      let s := { inRec [10, 7] (fun x => { x with meas := { x.meas with vP := v, pHist := [(0, 0, 0)] } }) with time := ⟨10 ^ 9, 0, 10 ^ 9⟩ };
      s.inStep 0 = true ∧ quiet0 s = true ∧ recTyp (s.eng 0).recd = 10 ∧ recTimer (s.eng 0).recd = 0 ∧
      (s.lane 0).meas.pHist.find? (fun e => e.1 + 100000 ≤ s.localFrame) = some (0, 0, 0) ∧ bitsOf (recW (s.eng 0).recd 1) 0 24 = 7 ∧
      s.flag (LANE_ESTCFG_EN 0) = false ∧ s.normalNext 0 = 1 ∧ recTyp (s.record 1) = 1 ∧ s.badRecord 0 1 (s.record 1) = 0) ∧
    (let s := inRec [0x87] (fun x => { x with chg := { x.chg with phase := .term, zone := .normal } }); s.inStep 0 = true ∧
      quiet0 s = true ∧ steady0 s = true ∧ (s.chg 0).phase = .term ∧ recTimer (s.eng 0).recd = 0 ∧ profVtrk (s.chg 0).prof = 0 ∧
      s.normalNext 0 = 1 ∧ recTyp (s.record 1) = 1) := by
  decide +kernel

theorem witness_ChargeTrackersCount :
    (let s := charging 0x80 .cv (fun c => c); s.inCharge 0 = true ∧ quiet0 s = true ∧ steady0 s = true ∧ calm0 s = true ∧
      (s.eng 0).st = .run ∧ (s.chg 0).phase = .cv ∧ profTapr (s.chg 0).prof ≠ 0 ∧ (s.chg 0).lastIm = none ∧ (s.chg 0).stall < 3 ∧
      (s.chg 0).qMin < s.tqual 0 ∧ (chgTerm (s.eng 0).recd : Int) * 10000 < s.iCh 0) ∧
    (let s := charging 0x80 .cv (fun c => { c with lastIm := some 50, stall := 1 }); (s.chg 0).dirty = false ∧
      ¬((chgTerm (s.eng 0).recd : Int) * 10000 < (s.healthy 0).foldl (fun x k => x + meanOr (s.lane k).meas.iP ((s.lastSecond k).map (fun e => e.2))) 0)) ∧
    (∀ k ∈ [1, 2],
      let s := lane0 (charging 0x80 .cv (fun c => { c with lastIm := some 50, stall := k })) (fun x => { x with meas := { x.meas with iP := 50 } });
      (s.chg 0).stall = k ∧ s.inCharge 0 = true ∧ quiet0 s = true ∧ steady0 s = true ∧ calm0 s = true ∧ (s.chg 0).qMin < s.tqual 0 ∧
      (chgTerm (s.eng 0).recd : Int) * 10000 < s.iCh 0 ∧
      (let im := (s.healthy 0).foldl (fun x k => x + meanOr (s.lane k).meas.iP ((s.lastSecond k).map (fun e => e.2))) 0;
      (chgTerm (s.eng 0).recd : Int) * 10000 < im ∧ 50 * (256 - (profTapr (s.chg 0).prof : Int)) ≤ im * 256) ∧
      profTtop (s.chg 0).prof ≠ 0) ∧
    (let s := charging 0xA0 .cc (fun c => c); s.inCharge 0 = true ∧ quiet0 s = true ∧ steady0 s = true ∧ calm0 s = true ∧
      (s.eng 0).st = .run ∧ chgNimh (s.eng 0).recd = true ∧ (s.chg 0).vPk = none ∧ (s.chg 0).tMin + 1 < 6000000) ∧
    (let s := charging 0xA0 .cc (fun c => { c with vPk := some 499 }); profDvneg (s.chg 0).prof = 1 ∧
      ¬(profDvneg (s.chg 0).prof : Int) * 500 ≤ max 499 (s.meanVolt 0) - s.meanVolt 0) ∧
    (∀ k ∈ [1, 2], let s := charging 0xA0 .cc (fun c => { c with vPk := some 500, ndvRun := k }); s.inCharge 0 = true ∧
      quiet0 s = true ∧ steady0 s = true ∧ calm0 s = true ∧ (s.chg 0).ndvRun = k ∧
      (profDvneg (s.chg 0).prof : Int) * 500 ≤ max 500 (s.meanVolt 0) - s.meanVolt 0 ∧ profTtop (s.chg 0).prof ≠ 0) ∧
    (∀ k ∈ [0, 1],
      let s := lane0 (charging 0x20 .cc (fun c => { c with tRef := some 2500, dtRun := k, prof := c.prof.set 7 0x10100 })) (fun x => { x with meas := { x.meas with temp := some 2505 } });
      s.inCharge 0 = true ∧ quiet0 s = true ∧ steady0 s = true ∧ calm0 s = true ∧ chgTnone (s.eng 0).recd = false ∧
      (s.lane 0).meas.temp = some 2505 ∧ (s.chg 0).tRef = some 2500 ∧ (profDtdt (s.chg 0).prof : Int) * 5 ≤ 2505 - 2500 ∧
      ¬(profDtdt (s.chg 0).prof : Int) * 5 ≤ 2504 - 2500 ∧ (s.chg 0).dtRun = k ∧ profDvneg (s.chg 0).prof = 0 ∧
      profTtop (s.chg 0).prof ≠ 0) := by
  decide +kernel

theorem witness_EstimatorCommandsAct :
    (let s := lane0 (upWith [(LANE_ESTCFG_EN 0, 1), (EST_TBLSTAT_VALID, 1)]) (fun x => { x with est := { x.est with rest := 1 } });
      s.running = true ∧ s.isLead 0 = true ∧ s.flag (LANE_ESTCFG_EN 0) = true ∧ 0 < (s.est 0).rest ∧ s.resting 0 = true ∧
      s.seededNow 0 = false ∧ s.tableValid (s.tableOf 0) = true) ∧
    (up.tableValid (up.tableOf 0) = false ∧ (up.est 0).badSet = false) ∧
    (let s := coreOn (upWith [(EST_WBCFG_WBREQ, 1), (REC_RSTAT_STOREOK, 1)]); s.running = true ∧ s.coreRuns = true ∧
      s.flag EST_WBSTAT_BUSY = false ∧ s.flag EST_WBCFG_WBREQ = true ∧ s.storeUsable = true) ∧
    (let s := (coreOn up).wr 0xD44 0x80000000; s.coreRuns = true ∧ s.laneBits 0xD40 0xD44 ≠ 0 ∧ s.get EST_WBCFG_WBPER ≠ 0 ∧
      s.storeUsable = false) ∧
    (upWith [(EST_WBSTAT_BUSY, 1)]).flag EST_WBSTAT_BUSY = true ∧
    ((lane0 up (fun x => { x with meas := { x.meas with iFrm := 10 ^ 9 } })).resting 0 = false ∧
      (upWith [(LANE_ANCH_ASRC 0, 3)]).seededNow 0 = true) := by
  decide +kernel

theorem witness_WindowsAndPeriodsClose :
    (let s := sweeping (fun w => { w with live := true, seen := 0, whole := true, n := 1 }); s.running = true ∧ s.enabled 0 = true ∧
      s.isLead 0 = true ∧ s.toneOn 0 = true ∧ s.frame % max 1 (s.swp 0).cfg.win = 0 ∧ (s.swp 0).live = true ∧
      (s.swp 0).seen ≠ s.localFrame + 1 ∧ (s.swp 0).whole = true ∧ (s.swp 0).settle = 0 ∧
      ((s.swp 0).flags ||| s.sampleFlags 0) &&& 0xBF = 0) ∧
    (let s := sweeping (fun w => { w with live := true, seen := 0, whole := true, n := 1, flags := 1 }); (s.swp 0).whole = true ∧
      (s.swp 0).settle = 0 ∧ ((s.swp 0).flags ||| s.sampleFlags 0) &&& 0xBF ≠ 0) ∧
    (((sweeping (fun w => { w with whole := true, n := 1, settle := 1 })).swp 0).settle ≠ 0 ∧
      ((sweeping (fun w => w)).swp 0).whole = false ∧
      ((sweeping (fun w => { w with seen := 1 })).swp 0).seen = (sweeping (fun w => w)).localFrame + 1) ∧
    (let s := { up with tlm := { Tlm.reset with on := true, nfr := 1 }, time := ⟨10 ^ 8, 0, 0⟩ }; s.running = true ∧
      s.flag CLK_STAT_RELOCKING = false ∧ s.toBoundary.reportMarks.periodReady = true) ∧
    (up.flag TLM_CFG_RINGEN = true ∧ up.flag TLM_CFG_STOP = false ∧ (upWith [(TLM_CFG_LINKEN, 1)]).flag TLM_CFG_LINKEN = true ∧
      up.toBoundary.reportMarks.periodReady = false ∧ up.toBoundary.reportMarks.periodOverdue = false) ∧
    (let s := { upWith [(TLM_CFG_LATEMAX, 1)] with tlm := { Tlm.reset with on := true, nfr := 1, drain := [(1, []), (0, [])] }, time := ⟨10 ^ 10, 0, 0⟩ };
      s.running = true ∧ s.flag CLK_STAT_RELOCKING = false ∧ s.toBoundary.reportMarks.periodOverdue = true ∧
      s.tlm.drain = [(1, []), (0, [])] ∧ s.frz pageTLM = false ∧ up.tlm.drain = []) := by
  decide +kernel

theorem witness_RovingGoesThroughItsVisit :
    (up.running = true ∧ up.enabled (8 * 0) = true ∧ up.canRove 0 = true ∧ up.canRove (0 ^^^ 1) = true ∧ (up.spare 0).phase = 0 ∧
      up.faultToPark 0 = none ∧ up.enabled (inputLane (slotInput 0 (up.frame / 200000 % 16))) = true ∧ up.flag ⟨0xC08, 0, 1⟩ = true) ∧
    (∀ p ∈ [(0, ladderPts 8), (64, ladderPts 8), (0, ladderPts 0)],
      ((upWith [(CAL_VREFEST_VREF, 2500000)]).calibrate 128 p.1 p.2).2 = decide (p.2 ≠ ladderPts 0)) ∧
    (∀ n ∈ [1, 2, 3, 4], ((roving n).spare 0).phase = n ∧ (roving n).running = true ∧ ((roving n).spare 0).park = false ∧
      10200 ≤ ((roving n).spare 0).ovl ∧ ((roving n).spare 0).ready = some 0 ∧
      ((roving n).spare 0).subj = ((roving n).spare 0).input) ∧
    absI 0 * 1000000 ≤ (up.get CAL_MATCH_MISLIM : Int) * 10000 * 2 ^ 84 ∧
    (let s := { upWith [(CAL_CFG_XREFEN, 1), (CAL_XREFV_XREFV, 2000000)] with shadow := { up.shadow with lanes := 64 } };
      let y := s.calY 128 2 256000000 * 8389000; s.flag CAL_CFG_XREFEN = true ∧ 2000000 ≤ (s.get CAL_XREFV_XREFV : Int) ∧
      absI (y - 2000000 * 2 ^ 84) * 1000 ≤ 2000000 * 2 ^ 84 ∧ 0 < y) := by
  decide +kernel

theorem witness_SensorsAndLevelsFollowTemperature :
    (up.alive = true ∧ up.psq.st ≠ .powerless ∧ up.rst.inReset = false ∧ 0 ∈ up.leads) ∧
    (let s := warmed (some 12000); s.running = true ∧ s.mode ≠ .deepSleep ∧ s.flag THM_THRCFG_AUTOEN = true ∧
      s.thm.updated ≠ some s.localFrame ∧ s.frame % (100 * max 1 (s.get THM_THRCFG_TSTEP)) = 0 ∧
      s.thm.last.toList.getD 7 none = some 12000 ∧ s.degrees THM_THRCFG_TTHR ≤ 12000) ∧
    (100 < up.degrees THM_THRCFG_TTHR - (up.get THM_THRCFG_THYS : Int) * 100 ∧
      (warmed (some 100)).thm.last.toList.getD 7 none = some 100 ∧ (warmed none).thm.last.toList.getD 7 none = none) ∧
    (let y := up.degrees THM_THRCFG_TTHR - 1; y < up.degrees THM_THRCFG_TTHR ∧
      up.degrees THM_THRCFG_TTHR - (up.get THM_THRCFG_THYS : Int) * 100 ≤ y) ∧
    ({ up with thm := { Thm.reset with updated := some 0 } } : State).thm.updated = some up.localFrame := by
  decide +kernel

theorem witness_ClockTicksCarryTheCalendar :
    (up.pl.calp.natAbs ≤ 511 ∧ up.pl.supp = 0 ∧
      ({ up with pl := { Plinth.reset with supp := 1, calp := -511 } } : State).pl.calp.natAbs ≤ 511) ∧
    (let s := upWith [(RTC_CALA_SEC, 59), (RTC_CALA_MIN, 59), (RTC_CALB_HOUR, 23), (RTC_CALB_WDAY, 7), (RTC_CALB_DAY, 29), (RTC_CALB_MONTH, 2), (RTC_CALB_YEAR, 0)];
      s.get RTC_CALA_SEC = 59 ∧ s.get RTC_CALA_MIN = 59 ∧ s.get RTC_CALB_HOUR = 23 ∧
      s.get RTC_CALB_DAY = dim (s.get RTC_CALB_MONTH) (s.get RTC_CALB_YEAR) ∧ 1 ≤ s.get RTC_CALB_WDAY) ∧
    (let s := upWith [(RTC_CALB_DAY, 31), (RTC_CALB_MONTH, 12), (RTC_CALB_YEAR, 99)];
      s.get RTC_CALB_DAY = dim (s.get RTC_CALB_MONTH) (s.get RTC_CALB_YEAR) ∧ s.get RTC_CALB_MONTH = 12 ∧ s.get RTC_CALB_YEAR = 99) ∧
    (let s := upWith [(RTC_CALA_SEC, 58), (RTC_PLSTAT_ARMED, 1)]; s.get RTC_CALA_SEC < 59 ∧ s.flag RTC_PLSTAT_ARMED = true) ∧
    ((upWith [(RTC_WAKE_WKCNT, 1)]).wakeTicks ≠ 0 ∧ up.wakeTicks = 0) := by
  decide +kernel

theorem witness_ClockCommandsTakeEffectAtTheirEdge :
    (up.running = true ∧ up.pl.wr = none ∧ (up.rtcPass 4).rtcWraps 1 = 0) ∧
    (let s := upWith [(RTC_SHIFT_TICKS, 32767), (RTC_CALA_SS, 1)];
      32767 < ((s.rtcPass 1).get RTC_CALA_SS : Int) + max (-32767) (s.getI RTC_SHIFT_TICKS)) ∧
    (((upWith [(RTC_SHIFT_TICKS, 0x8000)]).rtcPass 1).get RTC_CALA_SS < 32767 ∧
      (upWith [(RTC_SHIFT_TICKS, 2 ^ 32 - 32767)]).getI RTC_SHIFT_TICKS < 0) ∧
    (let s := { up with pl := { Plinth.reset with wr := some (0x9BC, 7) } }; s.running = true ∧ s.pl.wr.isSome = true ∧ 0x980 ≤ 0x9BC ∧
      0x9BC < 0x9C0 ∧ 0x9BC % 4 = 0) ∧
    ({ up with pl := { Plinth.reset with loaded := true } } : State).pl.loaded = true := by
  decide +kernel

theorem witness_PlinthInputsAndSuppliesAct :
    (let s := upWith [(RTC_EVCFG_EDGE, 0xC0)]; bitsOf (s.get RTC_EVCFG_EDGE) (2 * 3) 2 = 3 ∧ bit (s.get RTC_EVCFG_FILT) 3 = false ∧
      (s.stamps 3).length < 4) ∧
    4 ≤ (({ up with pl := { Plinth.reset with fifos := Vector.replicate 4 (List.replicate 4 (0, 0)) } } : State).stamps 3).length ∧
    bitsOf (up.get RTC_EVCFG_EDGE) 0 2 = 0 ∧
    (up.pl.main = true ∧ up.pl.hold = 0 ∧ ({ up with pl := { Plinth.reset with hold := 8 } } : State).pl.hold ≠ 0 ∧
      ({ up with pl := { Plinth.reset with main := false } } : State).pl.main = false) := by
  decide +kernel

theorem witness_StepTakesTheFrontCommand :
    (({ up with pending := [.safeNRelease] } : State).pending = [.safeNRelease] ∧ up.pending = [] ∧ up.running = true ∧
      up.flag CLK_STAT_RELOCKING = false ∧ up.clk.due = false ∧ up.time.cyc ≠ 1999 ∧ up.clk.open_ = false) ∧
    (let s := { up with clk := { up.clk with due := true } }; s.clk.due = true ∧
      ({ up with clk := { up.clk with open_ := true }, time := ⟨5000, 1000, 5000⟩ } : State).time.cyc = 1000) := by
  decide +kernel

/-- A right debug response (R408); the number is from a separate computation of HMAC-SHA-256. -/
theorem witness_response_debug : (let s := nonced 0x99463ECEFFB63AC4;
    s.response [1, 2, 3, 4] (s.rd 0x1724) (s.rd 0x1728) [0x44] = s.dbg.respL.toNat + (0x99463ECE : Word).toNat * 2 ^ 32) := by
  decide +kernel

/-- A right clear response (R427); the number is from a separate computation of HMAC-SHA-256. -/
theorem witness_response_clear : (let s := cleared 0xA58EA36F87769154;
    s.response [1, 2, 3, 4] (s.rd 0x8A0) (s.rd 0x8A4) [] = s.evr.respL.toNat + s.evr.respH.toNat * 2 ^ 32) := by
  decide +kernel

theorem witness_response_wrong : (let s := cleared 0; s.get REC_CLRSTAT_STATE = 2 ∧ s.coreRuns = true ∧ s.shadow.key = some [1, 2, 3, 4] ∧
    s.response [1, 2, 3, 4] (s.rd 0x8A0) (s.rd 0x8A4) [] ≠ s.evr.respL.toNat + s.evr.respH.toNat * 2 ^ 32) := by
  decide +kernel

theorem host_words : ∀ k w, ([⟨7, 0, []⟩] : List HostWord)[k]? = some w → writable (wordAddr (0x78 + 4 * k)) = true ∧
    hostReset (wordAddr (0x78 + 4 * k)) w.data = false := by
  intro k w h
  match k with
  | 0 => cases h; decide +kernel
  | k + 1 => cases h

/-- The queue of the next state is asked for nothing. -/
theorem witness_CommandsKeepTheQueue : exec .safeNRelease up = .next { up with pins := { up.pins with safeIn := false } } := rfl

theorem up_sound : ({ up with pending := [.safeNRelease] } : State).Sound where
  hostQueue := by decide +kernel
  releases := by decide +kernel
  stamps := by decide +kernel
  replay := by decide +kernel
  lanes := by decide +kernel
  mem := by decide +kernel
  store := by decide +kernel
  fuses := by decide +kernel
  frame := by decide +kernel
  trim := by decide +kernel

theorem witness_SoundStatesStaySound : ({ up with pending := [.safeNRelease] } : State).Sound ∧
    step { up with pending := [.safeNRelease] } = .next { up with pins := { up.pins with safeIn := false } } :=
  ⟨up_sound, rfl⟩

theorem witness_NoStepClearsAFuse :
    step { up with pending := [.safeNRelease] } = .next { up with pins := { up.pins with safeIn := false } } ∧ up.fuseBit 0x1DA 0 = true :=
  ⟨rfl, by decide +kernel⟩

end Sys2Proof.Tests
end

/-!
Proofs about the end of an internal power-down, RESET_N and the release from reset (chapters 02 to 04).

RESET_N comes to one DEVICE reset whose registers, `RST` state and sequencer are said once; the release is followed through its
sequence by `ReleaseFrame`, which says what a part of it leaves alone.
-/

namespace Sys2Proof.Machine

/-! ### What a port has put on its line -/

theorem State.port_modPort (s : State) (x y : Nat) (f : Port → Port) :
    (s.modPort x f).port y = if y = x ∧ x < 4 then f (s.port x) else s.port y := by
  unfold State.port State.modPort
  simp only [List.getD_eq_getElem?_getD, Vector.getElem?_toList, Vector.getElem?_setIfInBounds, State.port]
  by_cases h : x = y
  · subst h
    by_cases hx : x < 4 <;> simp [hx]
  · rw [if_neg h, if_neg (by omega)]

/-- Training that starts over leaves what the ports have put on their lines. -/
theorem State.untrained_out (s : State) (x y : Nat) : ((s.untrained x).port y).out = (s.port y).out := by
  unfold State.untrained
  rw [State.port_modPort]
  split
  · next h => rw [h.1]
  · rfl

theorem State.portIdle_out (s : State) (x y : Nat) : ((s.portIdle x).port y).out = (s.port y).out := by
  unfold State.portIdle State.toDetect
  split
  · rfl
  · exact s.untrained_out x y

theorem State.foldl_portIdle_out (xs : List Nat) (s : State) (y : Nat) :
    ((xs.foldl State.portIdle s).port y).out = (s.port y).out := by
  induction xs generalizing s with
  | nil => rfl
  | cons x xs ih => rw [List.foldl_cons, ih, s.portIdle_out]

/-- The end of an internal power-down idles the ports (R41) and leaves the items of the last link command in `Port.out`, which only
the next link command clears (`State.lineClear`). -/
theorem State.intDownDone_out (s : State) (y : Nat) : (s.intDownDone.port y).out = (s.port y).out := by
  unfold State.intDownDone
  split
  · exact State.foldl_portIdle_out _ _ y
  · rfl

/-- In INT_DOWN, port 0 ACTIVE, the ACK that it sent last still in `Port.out`. -/
def ackThenIntDown : State :=
  (({ State.reset with psq := { Psq.reset with st := .intDown } } : State).put (ULK_STATE_ST 0) 4).emit 0 (.ack 255 64)

theorem ackThenIntDown_keeps_ack : ackThenIntDown.psq.st = .intDown ∧ ackThenIntDown.lst 0 ≠ 0 ∧
    (ackThenIntDown.port 0).out = [.ack 255 64] :=
  ⟨rfl, by decide, rfl⟩

/-- Refutes O36: the clause on INT_DOWN_DONE says that a port that was not DISABLED has nothing in `Port.out` afterwards, and the ACK
of `ackThenIntDown` stays there. -/
theorem not_powerSequenceAdvances : ¬ Obligations.PowerSequenceAdvances := by
  unfold Obligations.PowerSequenceAdvances
  intro h
  obtain ⟨hst, hlst, hout⟩ := ackThenIntDown_keeps_ack
  obtain ⟨_, _, hdown, _⟩ := h ackThenIntDown
  obtain ⟨t, hexec, _, _, _, _, _, _, hempty, _⟩ := hdown hst
  have ht : t = ackThenIntDown.intDownDone := (Host.Outcome.next.inj hexec).symm
  have hkept : (t.port 0).out = [.ack 255 64] := by rw [ht, State.intDownDone_out, hout]
  rw [hempty 0 (by decide) hlst] at hkept
  cases hkept

/-! ### The start of a DEVICE reset (R85, R89) -/

/-- Only registers, fuses, the OTP controller and the free values changed. -/
def OtpOnly (s t : State) : Prop := ∃ r o c n, t = { s with regs := r, otp := o, otpc := c, free := n }

theorem OtpOnly.refl (s : State) : OtpOnly s s := ⟨_, _, _, _, rfl⟩

theorem OtpOnly.trans {s t u : State} (h : OtpOnly s t) (g : OtpOnly t u) : OtpOnly s u := by
  obtain ⟨_, _, _, _, rfl⟩ := h
  obtain ⟨_, _, _, _, rfl⟩ := g
  exact ⟨_, _, _, _, rfl⟩

theorem State.blow_otpOnly (s : State) (p : Nat × Nat) (lvl : Nat) : OtpOnly s (s.blow p lvl) := ⟨_, _, _, _, rfl⟩

theorem State.otpFree_otpOnly (s : State) (result : Nat) : OtpOnly s (s.otpFree result) := ⟨_, _, _, _, rfl⟩

theorem State.otpPlace_otpOnly (s : State) (p : Nat × Nat) : OtpOnly s (s.otpPlace p) := ⟨_, _, _, _, rfl⟩

theorem State.draw_otpOnly (s : State) : OtpOnly s s.draw.2 := ⟨_, _, _, _, rfl⟩

theorem State.blowTo_otpOnly (s : State) (n : Nat) : OtpOnly s (s.blowTo n) := by
  unfold State.blowTo
  generalize s.otpc.todo.take n = ps
  induction ps generalizing s with
  | nil => exact .refl s
  | cons p ps ih => exact (s.blow_otpOnly p 3).trans (ih _)

theorem State.otpStop_otpOnly (s : State) (k : Nat) : OtpOnly s (s.otpStop k false) := by
  unfold State.otpStop
  dsimp only
  split
  · exact .refl s
  · have hblown : OtpOnly s (s.draw.2.blowTo (min k (s.otpc.todo.length - 1))) :=
      s.draw_otpOnly.trans (State.blowTo_otpOnly _ _)
    rw [if_neg Bool.false_ne_true]
    refine OtpOnly.trans ?_ (State.otpFree_otpOnly _ 3)
    split
    · exact hblown
    · exact hblown.trans ((State.blow_otpOnly _ _ _).trans (State.otpPlace_otpOnly _ _))

theorem State.otpCut_otpOnly (s : State) : OtpOnly s s.otpCut := by
  unfold State.otpCut
  split
  · exact .refl s
  · exact s.draw_otpOnly.trans (State.otpStop_otpOnly _ _)

theorem State.deviceReset_rst (s : State) (code : Nat) : (s.deviceReset code).rst = { Rst.reset with pinLow := s.rst.pinLow } := by
  obtain ⟨_, _, _, _, h⟩ := s.otpCut_otpOnly
  show ({ Rst.reset with pinLow := s.otpCut.rst.pinLow } : Rst) = _
  rw [h]

theorem State.deviceReset_psq (s : State) (code : Nat) :
    (s.deviceReset code).psq = { Psq.reset with vinOk := s.psq.vinOk, scan := s.psq.scan } := by
  obtain ⟨_, _, _, _, h⟩ := s.otpCut_otpOnly
  show ({ Psq.reset with vinOk := s.otpCut.psq.vinOk, scan := s.otpCut.psq.scan } : Psq) = _
  rw [h]

theorem State.deviceReset_store (s : State) (code : Nat) : (s.deviceReset code).store = s.store := by
  obtain ⟨_, _, _, _, h⟩ := s.otpCut_otpOnly
  show s.otpCut.store = _
  rw [h]

theorem State.deviceReset_lf (s : State) (code : Nat) : (s.deviceReset code).lf = s.lf := by
  obtain ⟨_, _, _, _, h⟩ := s.otpCut_otpOnly
  show s.otpCut.lf = _
  rw [h]

/-- Until the shadows are loaded again no lane is enabled, and so none drives an output. -/
theorem State.allOff_of_no_lanes {s : State} (h : s.shadow.lanes = 0) : s.allOff := by
  intro n hn
  unfold State.enabled at hn
  rw [h] at hn
  simp at hn

theorem State.deviceReset_allOff (s : State) (code : Nat) : (s.deviceReset code).allOff := State.allOff_of_no_lanes rfl

theorem State.not_running_of_inReset {s : State} (h : s.rst.inReset = true) : s.running = false := by
  unfold State.running
  rw [h]
  rfl

theorem State.deviceReset_not_running (s : State) (code : Nat) : (s.deviceReset code).running = false := by
  refine State.not_running_of_inReset ?_
  rw [State.deviceReset_rst]
  rfl

theorem State.deviceReset_code (s : State) {code : Nat} (h : code < 16) : (s.deviceReset code).get RST_LAST_CODE = code := by
  unfold State.deviceReset
  dsimp only
  rw [State.get_put_ne _ _ _ _ (by decide) (by decide), State.get_put_self _ _ _ (by decide)]
  exact Nat.mod_eq_of_lt h

theorem State.deviceReset_cause (s : State) {code : Nat} (h : code < 10) :
    ((s.deviceReset code).get RST_CAUSE_CAUSE).testBit code = true := by
  unfold State.deviceReset
  dsimp only
  rw [State.get_put_ne _ _ _ _ (by decide) (by decide), State.get_put_ne _ _ _ _ (by decide) (by decide),
    State.get_put_self _ _ _ (by decide), Nat.testBit_mod_two_pow, Nat.testBit_or, Nat.testBit_two_pow_self]
  rw [Bool.or_true, Bool.and_true]
  exact decide_eq_true h

/-- A register that a DEVICE reset neither keeps (R85) nor sets reads its reset value. -/
theorem State.rd_deviceReset (s : State) (code : Nat) {a : Nat} (hkept : heldByReset a = false)
    (hset : a ∉ [PSQ_HKSTAT_PFLIVE.addr, REC_RSTAT_FILL.addr, RST_CAUSE_CAUSE.addr, RST_LAST_CODE.addr]) :
    (s.deviceReset code).rd a = resetWord a := by
  simp only [List.mem_cons, List.not_mem_nil, or_false, not_or] at hset
  obtain ⟨h1, h2, h3, h4⟩ := hset
  unfold State.deviceReset State.putB
  dsimp only
  rw [State.rd_put_ne (x := RST_LAST_DEVCNT) _ _ h4, State.rd_put_ne _ _ h4, State.rd_put_ne _ _ h3,
    State.rd_put_ne (x := REC_RSTAT_LOST) _ _ h2, State.rd_put_ne _ _ h2, State.rd_put_ne _ _ h1]
  refine (sparseGet_keep heldByReset _ a).trans ?_
  rw [if_neg (by simp [hkept])]

/-! ### RESET_N (R83) -/

/-- The sequencer is in the internal sequence or its failure, in the last gasp or powerless, where RESET_N and the release follow
rules of their own (R62, R66, R83). -/
def State.seqSpecial (s : State) : Prop :=
  s.psq.st = .powerless ∨ s.psq.st = .intUp ∨ s.psq.st = .intDown ∨ s.psq.st = .intLatched ∨ s.psq.st = .lastgasp

theorem State.not_seqSpecial {s : State} (h : ¬s.seqSpecial) : s.psq.st ≠ .powerless ∧ s.psq.st ≠ .intUp ∧ s.psq.st ≠ .intDown ∧
    s.psq.st ≠ .intLatched ∧ s.psq.st ≠ .lastgasp := by
  simpa only [State.seqSpecial, not_or] using h

theorem State.resetPin_deviceReset {s : State} (h : ¬s.seqSpecial) :
    s.resetPin = (s.modRst (fun r => { r with pinLow := true })).deviceReset 1 := by
  obtain ⟨h1, h2, h3, h4, h5⟩ := State.not_seqSpecial h
  unfold State.resetPin
  dsimp only
  split
  · next e => exact absurd e h5
  · next e => exact absurd e h1
  · next e => exact absurd e h2
  · next e => exact absurd e h3
  · next e => exact absurd e h4
  · rfl

theorem State.resetPin_intReset {s : State} (h : s.psq.st = .intDown ∨ s.psq.st = .intLatched) :
    s.resetPin = (s.modRst (fun r => { r with pinLow := true })).intReset := by
  have e : (s.modRst (fun r => { r with pinLow := true })).psq.st = s.psq.st := rfl
  unfold State.resetPin
  rcases h with h | h <;> simp only [e, h]

theorem State.resetPin_lastgasp {s : State} (h : s.psq.st = .lastgasp) :
    s.resetPin = if s.psq.gaspDone then (s.modRst (fun r => { r with pinLow := true })).deviceReset 1
      else { s with rst := { s.rst with pinLow := true, afterGasp := true } } := by
  have e : (s.modRst (fun r => { r with pinLow := true })).psq.st = s.psq.st := rfl
  unfold State.resetPin
  simp only [e, h]
  rfl

theorem State.resetPin_before_reset {s : State} (h : s.psq.st = .powerless ∨ s.psq.st = .intUp) :
    s.resetPin = { s with rst := { s.rst with pinLow := true } } := by
  have e : (s.modRst (fun r => { r with pinLow := true })).psq.st = s.psq.st := rfl
  unfold State.resetPin
  rcases h with h | h <;> simp only [e, h] <;> rfl

@[simp] theorem State.rd_modPsq (s : State) (f : Psq → Psq) (a : Nat) : (s.modPsq f).rd a = s.rd a := rfl
@[simp] theorem State.modPsq_rst (s : State) (f : Psq → Psq) : (s.modPsq f).rst = s.rst := rfl
@[simp] theorem State.modPsq_store (s : State) (f : Psq → Psq) : (s.modPsq f).store = s.store := rfl
@[simp] theorem State.modPsq_shadow (s : State) (f : Psq → Psq) : (s.modPsq f).shadow = s.shadow := rfl

theorem State.intReset_rst (s : State) : s.intReset.rst = { Rst.reset with pinLow := s.rst.pinLow } := by
  unfold State.intReset
  rw [State.wr_rst, State.modPsq_rst, State.deviceReset_rst]

/-- The rails go on down from where they were. -/
theorem State.intReset_psq (s : State) :
    s.intReset.psq = { Psq.reset with st := s.psq.st, step := s.psq.step, vinOk := s.psq.vinOk, scan := s.psq.scan } := by
  unfold State.intReset State.modPsq
  rw [State.wr_psq, State.deviceReset_psq]

theorem State.intReset_store (s : State) : s.intReset.store = s.store := by
  unfold State.intReset
  rw [State.wr_store, State.modPsq_store, State.deviceReset_store]

theorem State.intReset_allOff (s : State) : s.intReset.allOff := by
  refine State.allOff_of_no_lanes ?_
  unfold State.intReset
  rw [State.wr_shadow, State.modPsq_shadow]
  rfl

theorem State.intReset_rd (s : State) {a : Nat} (h : a ≠ 0x410) : s.intReset.rd a = (s.deviceReset 1).rd a := by
  unfold State.intReset
  rw [State.rd_wr_ne _ _ h, State.rd_modPsq]

theorem State.intReset_get (s : State) {x : Fld} (h : x.addr ≠ 0x410) : s.intReset.get x = (s.deviceReset 1).get x := by
  unfold State.get
  rw [s.intReset_rd h]

/-- INT_FAIL stays to be seen after the recovery (R72). -/
theorem State.intReset_intFail (s : State) : (s.intReset.pevt pageSUP).testBit 4 = (s.pevt pageSUP).testBit 4 := by
  show ((s.intReset.rd 0x410).toNat).testBit 4 = ((s.rd 0x410).toNat).testBit 4
  unfold State.intReset
  dsimp only
  rw [State.rd_wr_self, BitVec.toNat_and, Nat.testBit_and]
  rw [show ((0x10 : Word).toNat).testBit 4 = true from rfl, Bool.and_true]

theorem State.gateOn_of_off {s : State} {f : Nat} (h : s.fst f = 0) : s.gateOn f = false := by
  unfold State.gateOn
  rw [h]
  rfl

theorem State.intReset_get_reset (s : State) {x : Fld} (h : x.addr ≠ 0x410) (hkept : heldByReset x.addr = false)
    (hset : x.addr ∉ [PSQ_HKSTAT_PFLIVE.addr, REC_RSTAT_FILL.addr, RST_CAUSE_CAUSE.addr, RST_LAST_CODE.addr]) :
    s.intReset.get x = bitsOf (resetWord x.addr).toNat x.lo x.w := by
  rw [s.intReset_get h]
  unfold State.get
  rw [State.rd_deviceReset _ _ hkept hset]

theorem State.intReset_enx (s : State) : s.intReset.get PSQ_STATE_ENXLVL = 0 :=
  s.intReset_get_reset (by decide) (by decide) (by decide)

theorem State.intReset_gateOn (s : State) {f : Nat} (h : f < 2) : s.intReset.gateOn f = false := by
  refine State.gateOn_of_off ?_
  match f, h with
  | 0, _ => exact s.intReset_get_reset (x := EFU_FSTAT_ST 0) (by decide) (by decide) (by decide)
  | 1, _ => exact s.intReset_get_reset (x := EFU_FSTAT_ST 1) (by decide) (by decide) (by decide)

/-! ### Release from reset (R40, R84) -/

/-- The supplies, clocks, reset, time, fuses, their shadows and the record store are as before, and so is each register for which
`q` holds. -/
structure ReleaseFrame (q : Nat → Prop) (s t : State) : Prop where
  psq : t.psq = s.psq
  rst : t.rst = s.rst
  clk : t.clk = s.clk
  time : t.time = s.time
  shadow : t.shadow = s.shadow
  otp : t.otp = s.otp
  store : t.store = s.store
  rd : ∀ a, q a → t.rd a = s.rd a

namespace ReleaseFrame

variable {q : Nat → Prop} {s t u : State}

theorem refl (s : State) : ReleaseFrame q s s := ⟨rfl, rfl, rfl, rfl, rfl, rfl, rfl, fun _ _ => rfl⟩

theorem trans (h : ReleaseFrame q s t) (g : ReleaseFrame q t u) : ReleaseFrame q s u where
  psq := g.psq.trans h.psq
  rst := g.rst.trans h.rst
  clk := g.clk.trans h.clk
  time := g.time.trans h.time
  shadow := g.shadow.trans h.shadow
  otp := g.otp.trans h.otp
  store := g.store.trans h.store
  rd a ha := (g.rd a ha).trans (h.rd a ha)

theorem mono {q' : Nat → Prop} (h : ReleaseFrame q s t) (hq : ∀ a, q' a → q a) : ReleaseFrame q' s t :=
  { h with rd := fun a ha => h.rd a (hq a ha) }

theorem ite {c : Prop} [Decidable c] (h : ReleaseFrame q s t) (g : ReleaseFrame q s u) : ReleaseFrame q s (if c then t else u) := by
  split
  · exact h
  · exact g

theorem foldl {α : Type} {g : State → α → State} (xs : List α) (h : ∀ t, ∀ x ∈ xs, ReleaseFrame q t (g t x)) (s : State) :
    ReleaseFrame q s (xs.foldl g s) := by
  induction xs generalizing s with
  | nil => exact refl s
  | cons x xs ih => exact (h s x List.mem_cons_self).trans (ih (fun t y hy => h t y (List.mem_cons_of_mem x hy)) _)

theorem wr {a : Nat} (h : ¬q a) (s : State) (v : Word) : ReleaseFrame q s (s.wr a v) :=
  ⟨rfl, rfl, rfl, rfl, rfl, rfl, rfl, fun _ hb => State.rd_wr_ne s v (fun e => h (e ▸ hb))⟩

theorem put {x : Fld} (h : ¬q x.addr) (s : State) (v : Nat) : ReleaseFrame q s (s.put x v) := wr h s _

theorem putB {x : Fld} (h : ¬q x.addr) (s : State) (b : Bool) : ReleaseFrame q s (s.putB x b) := put h s _

theorem modPort (s : State) (x : Nat) (f : Port → Port) : ReleaseFrame q s (s.modPort x f) :=
  ⟨rfl, rfl, rfl, rfl, rfl, rfl, rfl, fun _ _ => rfl⟩

theorem modLink (s : State) (f : LinkCfg → LinkCfg) : ReleaseFrame q s (s.modLink f) :=
  ⟨rfl, rfl, rfl, rfl, rfl, rfl, rfl, fun _ _ => rfl⟩

theorem setTab (s : State) (off v : Nat) : ReleaseFrame q s (s.setTab off v) :=
  ⟨rfl, rfl, rfl, rfl, rfl, rfl, rfl, fun _ _ => rfl⟩

theorem modWdg (s : State) (f : Wdg → Wdg) : ReleaseFrame q s (s.modWdg f) :=
  ⟨rfl, rfl, rfl, rfl, rfl, rfl, rfl, fun _ _ => rfl⟩

theorem setCoef (s : State) (k : Nat) (v : Word) : ReleaseFrame q s (s.setCoef k v) :=
  ⟨rfl, rfl, rfl, rfl, rfl, rfl, rfl, fun _ _ => rfl⟩

theorem raise {p : Nat} (h : ∀ a, q a → a ≠ p * 256 + 0x10 ∧ a ≠ p * 256 + 0x18 ∧ a ≠ 0x18) (s : State) (m : Nat) :
    ReleaseFrame q s (s.raise p m) where
  psq := s.raise_psq p m
  rst := s.raise_rst p m
  clk := s.raise_clk p m
  time := s.raise_time p m
  shadow := s.raise_shadow p m
  otp := s.raise_otp p m
  store := s.raise_store p m
  rd a ha := s.rd_raise_ne (h a ha).1 (h a ha).2.1 (h a ha).2.2

theorem get (h : ReleaseFrame q s t) {x : Fld} (hx : q x.addr) : t.get x = s.get x := by
  unfold State.get
  rw [h.rd _ hx]

theorem pevt (h : ReleaseFrame q s t) {p : Nat} (hp : q (p * 256 + 0x10)) : t.pevt p = s.pevt p := by
  unfold State.pevt
  rw [h.rd _ hp]

end ReleaseFrame

section LinkPages

/-! What the link does at the release touches the ULK pages and `SYS.PFIRST` only (R469, R480, R496). -/

variable {q : Nat → Prop} (hq : ∀ a, q a → a < 0x1100 ∧ a ≠ 0x18)
include hq

theorem not_q_link {a : Nat} (h : 0x1100 ≤ a) : ¬q a := fun ha => absurd (hq a ha).1 (by omega)

theorem State.toDetect_frame (s : State) (x : Nat) (go : Bool) : ReleaseFrame q s (s.toDetect x go) := by
  have hput : ∀ t v, ReleaseFrame q t (State.put t (ULK_STATE_ST x) v) :=
    ReleaseFrame.put (not_q_link hq (by simp only [ULK_STATE_ST]; omega))
  have hinv : ∀ t b, ReleaseFrame q t (State.putB t (ULK_STATE_RXINV x) b) :=
    ReleaseFrame.putB (not_q_link hq (by simp only [ULK_STATE_RXINV]; omega))
  have hdet : ReleaseFrame q s ((s.untrained x).put (ULK_STATE_ST x) 1) := (ReleaseFrame.modPort _ _ _).trans (hput _ _)
  unfold State.toDetect State.toAlign
  exact .ite (hdet.trans ((ReleaseFrame.modPort _ _ _).trans ((hinv _ _).trans (hput _ _)))) hdet

theorem State.portEnable_frame (s : State) (x : Nat) : ReleaseFrame q s (s.portEnable x) := by
  unfold State.portEnable
  exact .ite (.refl s) (s.toDetect_frame hq x true)

theorem State.portFresh_frame (s : State) (x : Nat) : ReleaseFrame q s (s.portFresh x) := by
  unfold State.portFresh
  have h : ∀ o r, ReleaseFrame q s { s with rxq := r, outbox := o } := fun o r =>
    ⟨rfl, rfl, rfl, rfl, rfl, rfl, rfl, fun _ _ => rfl⟩
  refine (h _ _).trans ((ReleaseFrame.wr (not_q_link hq ?_) _ _).trans ((ReleaseFrame.put (not_q_link hq ?_) _ _).trans
    ((ReleaseFrame.putB (not_q_link hq ?_) _ _).trans (ReleaseFrame.modPort _ _ _))))
  · simp only [ULK_SEQ_NEXTTX]; omega
  · simp only [ULK_STATE_CREDIT]; omega
  · simp only [ULK_STATE_FRESH]; omega

theorem State.setWrapen_frame (s : State) (x : Nat) (b : Bool) : ReleaseFrame q s (s.setWrapen x b) := by
  have hput : ∀ t y, ReleaseFrame q t (State.putB t (ULK_CFG_WRAPEN y) b) := fun t y =>
    ReleaseFrame.putB (not_q_link hq (by simp only [ULK_CFG_WRAPEN]; omega)) t b
  unfold State.setWrapen
  exact .ite (.refl s) ((hput _ _).trans (hput _ _))

theorem State.portDisable_frame (s : State) (x : Nat) : ReleaseFrame q s (s.portDisable x) := by
  unfold State.portDisable
  split
  · exact .refl s
  · refine (s.portFresh_frame hq x).trans ((ReleaseFrame.modPort _ _ _).trans ((ReleaseFrame.put (not_q_link hq ?_) _ _).trans
      ((ReleaseFrame.putB (not_q_link hq ?_) _ _).trans ((ReleaseFrame.modPort _ _ _).trans (State.setWrapen_frame hq _ _ _)))))
    · simp only [ULK_STATE_ST]; omega
    · simp only [ULK_STATE_WRAP]; omega

theorem State.headPorts_frame (s : State) (on : Bool) : ReleaseFrame q s (s.headPorts on) := by
  unfold State.headPorts
  refine ReleaseFrame.foldl _ (fun t x _ => ?_) s
  have hen : ¬q (⟨0x1108 + 256 * x, 0, 1⟩ : Fld).addr := not_q_link hq (by dsimp only; omega)
  exact (ReleaseFrame.putB hen t on).trans (.ite (State.portEnable_frame hq _ x) (State.portDisable_frame hq _ x))

theorem State.setRoles_frame (s : State) (shead keyst : Bool) : ReleaseFrame q s (s.setRoles shead keyst) := by
  unfold State.setRoles
  exact .ite (.modLink _ _) ((ReleaseFrame.modLink _ _).trans (State.headPorts_frame hq _ _))

theorem State.tableTake_frame (s : State) : ReleaseFrame q s s.tableTake := by
  have hev : ∀ t, ReleaseFrame q t (State.ev t (pageULK 0) 15) := fun t =>
    ReleaseFrame.raise (fun a ha => ⟨by have := (hq a ha).1; simp only [pageULK]; omega,
      by have := (hq a ha).1; simp only [pageULK]; omega, (hq a ha).2⟩) t _
  unfold State.tableTake
  exact (ReleaseFrame.modLink _ _).trans ((State.setRoles_frame hq _ _ _).trans (.ite (.refl _) (hev _)))

theorem State.tableReset_frame (s : State) : ReleaseFrame q s s.tableReset :=
  (ReleaseFrame.setTab s _ _).trans ((ReleaseFrame.setTab _ _ _).trans ((ReleaseFrame.setTab _ _ _).trans
    ((ReleaseFrame.setTab _ _ _).trans (State.tableTake_frame hq _))))

/-- Every port whose `EN` is set is brought up. -/
theorem State.enablePorts_frame (s : State) (xs : List Nat) :
    ReleaseFrame q s (xs.foldl (fun t p => if t.flag (⟨0x1108 + 256 * p, 0, 1⟩ : Fld) then t.portEnable p else t) s) :=
  .foldl xs (fun t x _ => .ite (State.portEnable_frame hq t x) (.refl t)) s

end LinkPages

section OtherPages

variable {q : Nat → Prop}

/-- The load of trims and coefficients at t1 goes on from the shadows taken. -/
theorem State.shadowLoad_frame (s : State) :
    ReleaseFrame (fun _ => False) { s with shadow := shadowOf s.otp, otpc := { OtpCtl.reset with boot := s.otp } } s.shadowLoad := by
  have hput : ∀ t f v, ReleaseFrame (fun _ => False) t (State.put t f v) := fun t f v => ReleaseFrame.put id t v
  have hcoef : ∀ t w n, ReleaseFrame (fun _ => False) t (State.loadCoefs t w n) := fun t w n =>
    ReleaseFrame.trans (t := { t with cal := { t.cal with coef := [] } }) ⟨rfl, rfl, rfl, rfl, rfl, rfl, rfl, fun _ _ => rfl⟩
      (.foldl _ (fun t _ _ => .foldl _ (fun t _ _ => .foldl _ (fun t _ _ => .setCoef t _ _) t) t) _)
  have htrim : ∀ t m, ReleaseFrame (fun _ => False) t (State.loadTrims t m) := fun t m =>
    (hcoef _ _ _).trans ((hput _ _ _).trans (.foldl _ (fun _ _ _ => (hput _ _ _).trans (hput _ _ _)) _))
  have hreport : ∀ t m, ReleaseFrame (fun _ => False) t (State.reportOtp t m) := fun t m =>
    (hput _ _ _).trans ((hput _ _ _).trans ((hput _ _ _).trans ((hput _ _ _).trans ((hput _ _ _).trans ((hput _ _ _).trans
      (ReleaseFrame.trans (.ite (.refl _) ((hput _ _ _).trans ((hput _ _ _).trans (hput _ _ _))))
        (.raise (fun _ h => h.elim) _ _)))))))
  exact (htrim _ _).trans ((hreport _ _).trans (hput _ _ _))

theorem State.sampleStraps_frame (hq : ∀ a, q a → a ≠ 0x10 ∧ a ≠ 0x18 ∧ a ≠ 0x24 ∧ a ≠ 0x1020) (s : State) (x : ReleaseIn) :
    ReleaseFrame q s (s.sampleStraps x) := by
  have hstrap : ∀ t f v, f.addr = 0x24 → ReleaseFrame q t (State.put t f v) := fun t f v hf =>
    ReleaseFrame.put (fun h => (hq _ h).2.2.1 hf) t v
  have hcrc : ∀ t v, ReleaseFrame q t (State.put t HIF_CFG_CRCEN v) :=
    ReleaseFrame.put (fun h => (hq _ h).2.2.2 rfl)
  unfold State.sampleStraps
  refine (hstrap _ _ _ rfl).trans ((hstrap _ _ _ rfl).trans ((hstrap _ _ _ rfl).trans ((hstrap _ _ _ rfl).trans
    ((hcrc _ _).trans (.ite ?_ (.refl _))))))
  exact .raise (fun a h => ⟨(hq a h).1, (hq a h).2.1, (hq a h).2.1⟩) _ _

theorem State.plinthRelease_frame (hq : ∀ a, q a → a ≠ 0x910 ∧ a ≠ 0x918 ∧ a ≠ 0x18) (s : State) :
    ReleaseFrame q s s.plinthRelease := .raise hq s _

theorem State.wdgStart_frame (hq : ∀ a, q a → a ≠ WDG_COUNT_C.addr ∧ a ≠ WDG_LEDGER_LEDGER.addr) (s : State) :
    ReleaseFrame q s s.wdgStart := by
  unfold State.wdgStart State.wdgPeriod
  exact (ReleaseFrame.put (fun h => (hq _ h).1 rfl) _ _).trans ((ReleaseFrame.put (fun h => (hq _ h).2 rfl) _ _).trans
    ((ReleaseFrame.modWdg _ _).trans (ReleaseFrame.modWdg _ _)))

end OtherPages

/-! ### The sequence of R84 -/

/-- t2 to t4 with the PLL locked: CLK_SYS runs, time counts from the zero fill on, and the lock flags are set. -/
def State.clocksUp (s : State) (x : ReleaseIn) : State :=
  let n := fillCycles + x.after
  ((({ s with
      clk := { Clk.reset with pllOn := true, due := decide (n % 2000 = 0) }
      time := ⟨5 * n, n % 2000, 5 * n⟩
      rst := { Rst.reset with inReset := false }
      mem := sparseKeep (fun a => 0x1C0000 ≤ a && a < 0x1C4000) s.mem
      core := CoreSt.reset } : State).putB CLK_STAT_PLL_LOCK true).putB CLK_STAT_DL_LOCK true).putB CLK_STAT_REF_OK true

/-- What follows the straps at t5: RST's event, the ports, the plinth flags and the watchdog. -/
def State.leaveReset (s : State) : State :=
  ((List.range 4).foldl (fun t p => if t.flag (⟨0x1108 + 256 * p, 0, 1⟩ : Fld) then t.portEnable p else t)
    (s.ev pageRST 1)).plinthRelease.wdgStart

theorem State.releaseSeq_of_locks (s : State) {x : ReleaseIn} (h : x.locks = true) :
    s.releaseSeq x = (((s.shadowLoad.clocksUp x).tableReset).sampleStraps x).leaveReset := by
  unfold State.releaseSeq
  simp only [h]
  rfl

theorem State.releaseSeq_of_not_locks (s : State) {x : ReleaseIn} (h : x.locks = false) :
    s.releaseSeq x = s.shadowLoad.modClk (fun c => { c with waitPll := true }) := by
  unfold State.releaseSeq
  simp only [h]
  rfl

/-- The registers by which the release shows: PEVT of SYS and RST, the straps, the clock status and the CRC-8 setting. -/
abbrev releaseShown (a : Nat) : Prop := a ∈ [0x10, 0x24, 0x124, 0x210, 0x1020]

theorem State.leaveReset_frame (s : State) : ReleaseFrame releaseShown (s.ev pageRST 1) s.leaveReset :=
  (State.enablePorts_frame (by decide) _ _).trans ((State.plinthRelease_frame (by decide) _).trans
    (State.wdgStart_frame (by decide) _))

/-- After t4 the release keeps the clock status. -/
theorem State.strapsLeave_frame (s : State) (x : ReleaseIn) :
    ReleaseFrame (· = 0x124) s (s.tableReset.sampleStraps x).leaveReset := by
  have hev : ∀ u, ReleaseFrame (· = 0x124) u (State.ev u pageRST 1) := fun u =>
    .raise (by rintro a rfl; decide) u _
  exact (State.tableReset_frame (by rintro a rfl; decide) s).trans ((State.sampleStraps_frame (by rintro a rfl; decide) _ x).trans
    ((hev _).trans ((State.leaveReset_frame _).mono (by rintro a rfl; decide))))

theorem State.sampleStraps_bootsel (s : State) (x : ReleaseIn) : (s.sampleStraps x).get SYS_STRAP_BOOTSEL = x.bootsel.toNat := by
  have hput : ((((((s.put SYS_STRAP_BOOTSEL x.bootsel.toNat).putB SYS_STRAP_HCRC x.hcrc).putB SYS_STRAP_TESTEN x.testen).putB
      SYS_STRAP_TESTACT (x.testen && decide (lifeCode s.shadow.life ≤ 1))).putB HIF_CFG_CRCEN x.hcrc)).get SYS_STRAP_BOOTSEL =
      x.bootsel.toNat := by
    unfold State.putB
    rw [State.get_put_ne _ _ _ _ (by decide) (by decide), State.get_put_ne _ _ _ _ (by decide) (by decide),
      State.get_put_ne _ _ _ _ (by decide) (by decide), State.get_put_ne _ _ _ _ (by decide) (by decide),
      State.get_put_self _ _ _ (by decide)]
    exact Nat.mod_eq_of_lt x.bootsel.isLt
  unfold State.sampleStraps
  dsimp only
  split
  · rw [State.get_ev_ne _ (by decide) (by decide) (by decide), hput]
  · exact hput

theorem State.sampleStraps_crcen (s : State) (x : ReleaseIn) : (s.sampleStraps x).flag HIF_CFG_CRCEN = x.hcrc := by
  unfold State.sampleStraps
  dsimp only
  split
  · unfold State.flag
    rw [State.get_ev_ne _ (by decide) (by decide) (by decide)]
    exact State.flag_putB_self _ _ _ (by decide) rfl
  · exact State.flag_putB_self _ _ _ (by decide) rfl

/-- BOOTSEL = 0b11 raises a strap event (R40). -/
theorem State.sampleStraps_event (s : State) {x : ReleaseIn} (h : x.bootsel = 3) :
    ((s.sampleStraps x).pevt pageSYS).testBit 5 = true := by
  unfold State.sampleStraps
  dsimp only
  rw [if_pos (.inl h)]
  exact State.pevt_ev _ _ _ (by decide)

theorem State.clocksUp_pllLock (s : State) (x : ReleaseIn) : (s.clocksUp x).flag CLK_STAT_PLL_LOCK = true := by
  unfold State.clocksUp State.flag
  dsimp only
  rw [State.putB, State.get_put_ne _ _ _ _ (by decide) (by decide), State.putB, State.get_put_ne _ _ _ _ (by decide) (by decide)]
  exact State.flag_putB_self _ _ true (by decide) rfl

theorem State.running_of_released {s : State} (h : ¬s.seqSpecial) (hr : s.rst.inReset = false) (hp : s.clk.pllOn = true) :
    s.running = true := by
  obtain ⟨h1, h2, h3, h4, h5⟩ := State.not_seqSpecial h
  unfold State.running
  simp [hr, hp, h1, h2, h3, h4, h5]

/-- The state after the release from `s` (R40, R84, R85). -/
def State.ReleasedTo (s : State) (x : ReleaseIn) (t : State) : Prop :=
  let n := 9472 + x.after
  t.running = true ∧ t.rst.inReset = false ∧ t.rst.pinLow = false ∧
    t.time = ⟨5 * n, n % 2000, 5 * n⟩ ∧ (t.clk.due = true ↔ n % 2000 = 0) ∧ t.clk.open_ = false ∧
    t.get SYS_STRAP_BOOTSEL = x.bootsel.toNat ∧ t.flag HIF_CFG_CRCEN = x.hcrc ∧ t.flag CLK_STAT_PLL_LOCK = true ∧
    (t.pevt pageRST).testBit 1 = true ∧ t.shadow = shadowOf s.otp ∧ t.otp = s.otp ∧ t.store = s.store ∧
    (x.bootsel = 3 → (t.pevt pageSYS).testBit 5 = true)

/-- The straps, the CRC-8 setting and the events of the release stay to be seen at its end. -/
theorem State.leaveReset_shown (s : State) :
    s.leaveReset.get SYS_STRAP_BOOTSEL = s.get SYS_STRAP_BOOTSEL ∧ s.leaveReset.flag HIF_CFG_CRCEN = s.flag HIF_CFG_CRCEN ∧
      (s.leaveReset.pevt pageRST).testBit 1 = true ∧ s.leaveReset.pevt pageSYS = s.pevt pageSYS := by
  have hlate := s.leaveReset_frame
  have hshown : ∀ f : Fld, releaseShown f.addr → f.addr ≠ 0x210 ∧ f.addr ≠ 0x218 ∧ f.addr ≠ 0x18 →
      s.leaveReset.get f = s.get f :=
    fun f hf hne => (hlate.get hf).trans (State.get_ev_ne _ hne.1 hne.2.1 hne.2.2)
  refine ⟨hshown _ (by decide) (by decide), ?_, ?_, ?_⟩
  · unfold State.flag
    rw [hshown _ (by decide) (by decide)]
  · rw [hlate.pevt (by decide)]
    exact State.pevt_ev _ _ _ (by decide)
  · rw [hlate.pevt (by decide)]
    unfold State.pevt
    rw [State.rd_ev_ne _ (by decide) (by decide) (by decide)]

/-- What `clocksUp` sets, and what it leaves of the state that the shadows were loaded into. -/
theorem State.clocksUp_fields (s : State) (x : ReleaseIn) :
    let u := s.clocksUp x
    let n := 9472 + x.after
    u.psq = s.psq ∧ u.rst = { Rst.reset with inReset := false } ∧
      u.clk = { Clk.reset with pllOn := true, due := decide (n % 2000 = 0) } ∧ u.time = ⟨5 * n, n % 2000, 5 * n⟩ ∧
      u.shadow = s.shadow ∧ u.otp = s.otp ∧ u.store = s.store := ⟨rfl, rfl, rfl, rfl, rfl, rfl, rfl⟩

theorem State.releaseSeq_releasedTo {s : State} {x : ReleaseIn} (h : ¬s.seqSpecial) (hl : x.locks = true) :
    s.ReleasedTo x (s.releaseSeq x) := by
  rw [s.releaseSeq_of_locks hl]
  obtain ⟨hpsq, hrst, hclk, htime, hshadow, hotp, hstore⟩ := s.shadowLoad.clocksUp_fields x
  have hload := s.shadowLoad_frame
  have hlock := s.shadowLoad.clocksUp_pllLock x
  generalize s.shadowLoad.clocksUp x = u at *
  have hall := u.strapsLeave_frame x
  obtain ⟨hboot, hcrc, hrstEv, hsys⟩ := (u.tableReset.sampleStraps x).leaveReset_shown
  replace hrst := hall.rst.trans hrst
  replace hclk := hall.clk.trans hclk
  refine ⟨State.running_of_released ?_ ?_ ?_, ?_, ?_, hall.time.trans htime, ?_, ?_, hboot.trans (State.sampleStraps_bootsel _ x),
    hcrc.trans (State.sampleStraps_crcen _ x), ?_, hrstEv, hall.shadow.trans (hshadow.trans hload.shadow),
    hall.otp.trans (hotp.trans hload.otp), hall.store.trans (hstore.trans hload.store), fun e => ?_⟩
  · unfold State.seqSpecial
    rw [hall.psq, hpsq, hload.psq]
    exact h
  · rw [hrst]
  · rw [hclk]
  · rw [hrst]
  · rw [hrst]; rfl
  · rw [hclk]; exact decide_eq_true_iff
  · rw [hclk]; rfl
  · unfold State.flag
    rw [hall.get rfl]
    exact hlock
  · rw [hsys]
    exact State.sampleStraps_event _ e

theorem State.release_of_inReset {s : State} (x : ReleaseIn) (h : ¬s.seqSpecial) (hr : s.rst.inReset = true) :
    s.release x = (s.modRst (fun r => { r with pinLow := false })).releaseSeq x := by
  obtain ⟨h1, h2, h3, h4, h5⟩ := State.not_seqSpecial h
  unfold State.release
  dsimp only
  split
  · next e => exact absurd e h1
  · next e => exact absurd e h2
  · next e => exact absurd e h3
  · next e => exact absurd e h5
  · next e => exact absurd e h4
  · rw [if_pos hr]

theorem State.release_releasedTo {s : State} {x : ReleaseIn} (h : ¬s.seqSpecial) (hr : s.rst.inReset = true) (hl : x.locks = true) :
    s.ReleasedTo x (s.release x) := by
  rw [State.release_of_inReset x h hr]
  exact State.releaseSeq_releasedTo (s := s.modRst (fun r => { r with pinLow := false })) h hl

/-- A release in which the PLL does not lock stays in reset, the shadows loaded (R79). -/
theorem State.release_waits {s : State} {x : ReleaseIn} (h : ¬s.seqSpecial) (hr : s.rst.inReset = true) (hl : x.locks = false) :
    let t := s.release x
    t.rst.inReset = true ∧ t.clk = { s.clk with waitPll := true } ∧ t.shadow = shadowOf s.otp ∧ t.otp = s.otp := by
  have hload := (s.modRst (fun r => { r with pinLow := false })).shadowLoad_frame
  dsimp only
  rw [State.release_of_inReset x h hr, State.releaseSeq_of_not_locks _ hl]
  refine ⟨?_, ?_, hload.shadow, hload.otp⟩
  · exact (congrArg Rst.inReset hload.rst).trans hr
  · exact congrArg (fun c : Clk => { c with waitPll := true }) hload.clk

theorem State.release_intLatched {s : State} (x : ReleaseIn) (h : s.psq.st = .intLatched) (hp : s.rst.pinLow = true)
    (hv : s.psq.vinOk = true) :
    s.release x = { s with rst := { s.rst with pinLow := false }, psq := { s.psq with st := .intUp, step := 0 } } := by
  unfold State.release
  simp only [h, hp]
  exact if_pos ⟨trivial, hv⟩

theorem runs_resetNAssert {s t : State} {q : State → Prop} (h : s.resetPin = t) (hq : q t) : Runs .resetNAssert s q :=
  ⟨t, congrArg Host.Outcome.next h, hq⟩

theorem runs_deviceResetRelease {s t : State} {x : ReleaseIn} {q : State → Prop} (h : s.release x = t) (hq : q t) :
    Runs (.deviceResetRelease x) s q := ⟨t, congrArg Host.Outcome.next h, hq⟩

/-- In a reset that waits for the PLL the retry is a release (R79). -/
theorem runs_pllLockRetry {s : State} {x : ReleaseIn} {q : State → Prop} (hr : s.rst.inReset = true) (hw : s.clk.waitPll = true)
    (hq : q (s.release x)) : Runs (.pllLockRetry x) s q := by
  refine ⟨_, congrArg Host.Outcome.next (if_pos ?_), hq⟩
  rw [hr, hw]
  rfl

/-- Settles O40: RESET_N by the state that it meets, then the release by the state and by whether the PLL locks. -/
theorem resetPinAndReleaseAct : Obligations.ResetPinAndReleaseAct := by
  unfold Obligations.ResetPinAndReleaseAct
  intro s x
  have hpsq := (s.modRst (fun r => { r with pinLow := true })).intReset_psq
  refine ⟨fun h => runs_resetNAssert (State.resetPin_deviceReset h) ?_, fun h => runs_resetNAssert (State.resetPin_intReset h) ?_,
    fun h hd => runs_resetNAssert ((State.resetPin_lastgasp h).trans (if_neg (by simp [hd]))) rfl,
    fun h hd => runs_resetNAssert ((State.resetPin_lastgasp h).trans (if_pos hd)) ?_,
    fun h => runs_resetNAssert (State.resetPin_before_reset h) rfl,
    fun h hr hl => runs_deviceResetRelease rfl (State.release_releasedTo h hr hl),
    fun h hr hw hl => runs_pllLockRetry hr hw (State.release_releasedTo h hr hl),
    fun h hr hl => runs_deviceResetRelease rfl (State.release_waits h hr hl),
    fun h hp hv => runs_deviceResetRelease (State.release_intLatched x h hp hv) rfl⟩
  · exact ⟨State.deviceReset_rst _ 1, State.deviceReset_code _ (by decide), State.deviceReset_cause _ (by decide),
      State.deviceReset_allOff _ 1, State.deviceReset_not_running _ 1, State.deviceReset_store _ 1, State.deviceReset_lf _ 1⟩
  · exact ⟨State.intReset_rst _, (congrArg Psq.st hpsq :), (congrArg Psq.raised hpsq :), State.intReset_enx _,
      (State.intReset_get _ (by decide)).trans (State.deviceReset_code _ (by decide)), State.intReset_allOff _,
      State.intReset_store _, State.intReset_intFail _, fun f hf => State.intReset_gateOn _ hf⟩
  · exact ⟨State.deviceReset_rst _ 1, congrArg Psq.st (State.deviceReset_psq _ 1), State.deviceReset_code _ (by decide),
      State.deviceReset_allOff _ 1, State.deviceReset_store _ 1⟩

end Sys2Proof.Machine
